-- ==== Sys2Proof/Word.lean ====
section
/-! DEFINITION. The word types of the engine: the widths rule R20 of spec/10_state.md gives its registers. Every value is unsigned (R10, R12 of spec/00_scope.md). -/

namespace Sys2Proof

/-- A byte: line bytes, buffer bytes and the command word's fields (R80). -/
abbrev Byte := BitVec 8

/-- A 16-bit value: the CRC accumulator, frame fields and diagnostic counters (R29, R33, R40). -/
abbrev Half := BitVec 16

/-- A 9-bit length register: PLEN, ELEN, TLEN, P_PAYLEN (R30, R32, R35, R36). -/
abbrev Len := BitVec 9

/-- A 32-bit register as the host reads and writes it (R65). -/
abbrev Word := BitVec 32

/-- A byte offset in the 1024-byte register window (R60). -/
abbrev Offset := BitVec 10

end Sys2Proof
end

