-- ==== Sys2Proof/Config.lean ====
section
/-! DEFINITION. What the platform fixes and the spec leaves open (spec/92_eei_decisions.md, Open parameters). -/

namespace Sys2Proof

/-- `BASE`, the host address of the register window: OPEN, "any host address the platform chooses" (R9, D1).
It has no body, so a claim about host addresses holds for every placement. -/
opaque Config.base : Nat

end Sys2Proof
end

