-- ==== Sys2Proof/Syntax.lean ====
section
/-! DEFINITION. The engine's inputs as syntax: the eleven commands (R81), the raw command word's fields (R80), the host bus accesses (R62), the inputs of one cycle (R150), and the host program lines and pseudo-instructions of R93 and R94. -/

namespace Sys2Proof

/-- The commands of the opcode map (R81 of spec/30_encoding.md), one constructor per row of spec/opcode_table.json.
A constructor carries only the operand bytes its row uses; a field the row marks "0" is the decoder's to check (R83). -/
inductive Instr where
  /-- NOP, R163 of spec/42_frame_detector.md. -/
  | nop
  /-- CRC_INIT, R103 of spec/40_crc.md. -/
  | crcInit
  /-- CRC_FEED A, R104 of spec/40_crc.md. -/
  | crcFeed (a : Byte)
  /-- CRC_COMPUTE, R105 of spec/40_crc.md. -/
  | crcCompute
  /-- CRC_VERIFY, R106 of spec/40_crc.md. -/
  | crcVerify
  /-- DECODE, R121 of spec/41_frame_codec.md. -/
  | decode
  /-- ENCODE A (slave id), B (function code), R122 of spec/41_frame_codec.md. -/
  | encode (a b : Byte)
  /-- ENCODE_EXC A (slave id), B (function code), C (exception code), R123 of spec/41_frame_codec.md. -/
  | encodeExc (a b c : Byte)
  /-- DONE_TX, R160 of spec/42_frame_detector.md. -/
  | doneTx
  /-- DONE_DROP, R161 of spec/42_frame_detector.md. -/
  | doneDrop
  /-- RX_FLUSH, R162 of spec/42_frame_detector.md. -/
  | rxFlush
  deriving DecidableEq, Repr

/-- The four byte fields of a command word (R80), whatever they hold. -/
structure CmdFields where
  op : Byte
  a : Byte
  b : Byte
  c : Byte
  deriving DecidableEq, Repr

/-- The access sizes the host bus carries: 1, 2 or 4 bytes (R62). -/
inductive AccessSize where
  | one
  | two
  | four
  deriving DecidableEq, Repr

/-- A host bus access's direction, with the value a write carries, as wide as its size (R11 `MemRead`, `MemWrite`). -/
inductive BusOp where
  | read (size : AccessSize)
  | write1 (v : Byte)
  | write2 (v : Half)
  | write4 (v : Word)
  deriving DecidableEq, Repr

/-- One host access to the window: the port's `(off, n, write?, wdata)` (R150). -/
structure HostAccess where
  off : Offset
  op : BusOp
  deriving DecidableEq, Repr

/-- The inputs of one cycle (R150): reset, at most one host access, at most one line byte, at most one tick. -/
structure CycleInput where
  rst : Bool
  host : Option HostAccess
  rx : Option Byte
  tick : Bool
  deriving DecidableEq, Repr

/-- One line of a host program, one cycle each (R93). -/
inductive HostLine where
  | wr (off : Offset) (v : Word)
  | rd (off : Offset)
  | wrb (off : Offset) (v : Byte)
  | rdb (off : Offset)
  | rx (v : Byte)
  | tick
  | idle
  | cycle (host : Option HostAccess) (rx : Option Byte) (tick : Bool)
  /-- A command written as its mnemonic: `wr CMD, word` (R93). -/
  | cmd (i : Instr)
  deriving DecidableEq, Repr

/-- The pseudo-instructions of R94. -/
inductive Pseudo where
  | loadp (bs : List Byte)
  | loade (bs : List Byte)
  | crcbytes (bs : List Byte)
  | start
  | startIrq
  | stop
  | clrerr
  | clrovf
  | send (a b : Byte)
  | rxframe (bs : List Byte)
  | ticks (n : Nat)
  deriving DecidableEq, Repr

end Sys2Proof
end

