-- ==== Sys2Proof/WellFormed.lean ====
section
/-! DEFINITION. What a well-formed command word is (R81, R83, R229 of spec/), and which host program lines stand for what R93 and R94 write. Every term of `Instr` is well formed: its operands are bytes by their type. -/

namespace Sys2Proof

/-- The must-be-zero columns of R81's map: a command word is well formed when its OP is defined and every field that
OP marks "0" is zero. Written from the table on its own, not through the decoder. -/
def CmdFields.wellFormed (f : CmdFields) : Bool :=
  let zeroA := decide (f.a = 0#8)
  let zeroB := decide (f.b = 0#8)
  let zeroC := decide (f.c = 0#8)
  if f.op ∈ [0x00#8, 0x01#8, 0x03#8, 0x04#8, 0x10#8, 0x30#8, 0x31#8, 0x40#8] then zeroA && zeroB && zeroC
  else if f.op = 0x02#8 then zeroB && zeroC
  else if f.op = 0x20#8 then zeroC
  else decide (f.op = 0x21#8)

/-- The eleven defined OP values of R81; the other 245 are reserved. -/
def definedOps : List Byte :=
  [0x00#8, 0x01#8, 0x02#8, 0x03#8, 0x04#8, 0x10#8, 0x20#8, 0x21#8, 0x30#8, 0x31#8, 0x40#8]

/-- A pseudo-instruction's operands fit what R94 writes: `loadp` within PBUF (256 bytes), `loade` within EBUF (252
bytes), `rxframe` exactly the 8 bytes b0 .. b7. -/
def Pseudo.wellFormed : Pseudo → Bool
  | .loadp bs => decide (bs.length ≤ 256)
  | .loade bs => decide (bs.length ≤ 252)
  | .rxframe bs => decide (bs.length = 8)
  | .crcbytes _ | .start | .startIrq | .stop | .clrerr | .clrovf | .send _ _ | .ticks _ => true

end Sys2Proof
end

