-- ==== Sys2Proof/Decode.lean ====
section
/-! DEFINITION. The command word decoder, total on every 32-bit word and rejecting by name (R80, R81, R83, R84, R192 of spec/), and the encoder written from the same map (R82). -/

namespace Sys2Proof

/-- What the decoder answers for a word written to CMD. -/
inductive Decoded where
  /-- A defined command with its operands. -/
  | ok (i : Instr)
  /-- OP is one of the 245 reserved values: cause 1 (R83, R191). -/
  | reservedOp
  /-- A field the opcode marks "0" is not zero: cause 2 (R83, R191). -/
  | reservedField
  deriving DecidableEq, Repr

/-- OP = w[7:0], A = w[15:8], B = w[23:16], C = w[31:24] (R80). -/
def fieldsOfWord (w : Word) : CmdFields :=
  { op := w.extractLsb' 0 8, a := w.extractLsb' 8 8, b := w.extractLsb' 16 8, c := w.extractLsb' 24 8 }

/-- The word with these fields; bit 31 on the left: CCCCCCCC BBBBBBBB AAAAAAAA OOOOOOOO (R80). -/
def wordOfFields (f : CmdFields) : Word := f.c ++ f.b ++ f.a ++ f.op

/-- Format CMD-0: A, B and C must be zero (R81, R82). -/
def decodeCmd0 (f : CmdFields) (i : Instr) : Decoded :=
  if f.a = 0#8 ∧ f.b = 0#8 ∧ f.c = 0#8 then .ok i else .reservedField

/-- Format CMD-A: B and C must be zero (R81, R82). -/
def decodeCmdA (f : CmdFields) (i : Byte → Instr) : Decoded :=
  if f.b = 0#8 ∧ f.c = 0#8 then .ok (i f.a) else .reservedField

/-- Format CMD-AB: C must be zero (R81, R82). -/
def decodeCmdAB (f : CmdFields) (i : Byte → Byte → Instr) : Decoded :=
  if f.c = 0#8 then .ok (i f.a f.b) else .reservedField

/-- The opcode map of R81. OP is checked before the fields (R192). -/
def decodeFields (f : CmdFields) : Decoded :=
  match f.op with
  | 0x00#8 => decodeCmd0 f .nop
  | 0x01#8 => decodeCmd0 f .crcInit
  | 0x02#8 => decodeCmdA f .crcFeed
  | 0x03#8 => decodeCmd0 f .crcCompute
  | 0x04#8 => decodeCmd0 f .crcVerify
  | 0x10#8 => decodeCmd0 f .decode
  | 0x20#8 => decodeCmdAB f .encode
  | 0x21#8 => .ok (.encodeExc f.a f.b f.c)
  | 0x30#8 => decodeCmd0 f .doneTx
  | 0x31#8 => decodeCmd0 f .doneDrop
  | 0x40#8 => decodeCmd0 f .rxFlush
  | _ => .reservedOp

/-- The decoder of a word written to CMD (R80). -/
def decodeWord (w : Word) : Decoded := decodeFields (fieldsOfWord w)

/-- The fields of a command's word (R81, R82). -/
def fieldsOfInstr : Instr → CmdFields
  | .nop => ⟨0x00, 0, 0, 0⟩
  | .crcInit => ⟨0x01, 0, 0, 0⟩
  | .crcFeed a => ⟨0x02, a, 0, 0⟩
  | .crcCompute => ⟨0x03, 0, 0, 0⟩
  | .crcVerify => ⟨0x04, 0, 0, 0⟩
  | .decode => ⟨0x10, 0, 0, 0⟩
  | .encode a b => ⟨0x20, a, b, 0⟩
  | .encodeExc a b c => ⟨0x21, a, b, c⟩
  | .doneTx => ⟨0x30, 0, 0, 0⟩
  | .doneDrop => ⟨0x31, 0, 0, 0⟩
  | .rxFlush => ⟨0x40, 0, 0, 0⟩

/-- The one command word of an instruction (R82, R84). -/
def encodeWord (i : Instr) : Word := wordOfFields (fieldsOfInstr i)

/-- The command a decoded word stands for, if it stands for one. -/
def Decoded.instr? : Decoded → Option Instr
  | .ok i => some i
  | .reservedOp => none
  | .reservedField => none

/-- The host's number of a table row's bits, as the word written to CMD; the bits above `nbits` are zero. -/
def tableWord (nbits w : Nat) : Word := BitVec.ofNat 32 (w % 2 ^ nbits)

/-- The instruction this decoder reads from a row of spec/opcode_table.json, bit 0 the least significant bit of the
one command word. -/
def decodeTableWord (nbits w : Nat) : Option Instr := (decodeWord (tableWord nbits w)).instr?

end Sys2Proof
end

