-- ==== Sys2Proof/Machine/Params.lean ====
section
/-! DEFINITION. The engine's parameters with the values this hardware takes (R9 of spec/00_scope.md) and the window's regions (R61 of spec/20_memory.md). -/

namespace Sys2Proof.Machine

/-- FRAME_LEN: bytes captured per frame (R9). -/
abbrev frameLen : Nat := 8

/-- MIN_FRAME: the shortest decodable frame (R9, R120). -/
abbrev minFrame : Nat := 8

/-- RXQ_DEPTH (R9, R45, D8). -/
abbrev rxqDepth : Nat := 256

/-- PBUF_SIZE, the largest PLEN the commands accept (R9, R191). -/
abbrev pbufSize : Nat := 256

/-- EBUF_SIZE, the largest ELEN that ENCODE accepts (R9, R191). -/
abbrev ebufSize : Nat := 252

/-- TBUF_SIZE (R9). -/
abbrev tbufSize : Nat := 256

/-- The window's size in bytes (R9, R60). -/
abbrev windowSize : Nat := 1024

/-- Offset of PBUF[0]; the register region ends here (R61). -/
abbrev pbufBase : Nat := 0x100

/-- Offset of EBUF[0] (R61). -/
abbrev ebufBase : Nat := 0x200

/-- Offset of TBUF[0] (R61). -/
abbrev tbufBase : Nat := 0x300

/-- The CRC's polynomial constant, reflected form (R9, R100). -/
abbrev crcPoly : Half := 0xA001#16

/-- The CRC's initial value (R9, R101). -/
abbrev crcInitial : Half := 0xFFFF#16

end Sys2Proof.Machine
end

