-- ==== Sys2Proof/Machine/State.lean ====
section
/-! DEFINITION. The engine's whole state (R20 of spec/10_state.md), the ports' outputs and the inputs still to come (R150), the reasons a step can stop, and the state after reset (R221). -/

namespace Sys2Proof.Machine

/-- The loop's control state (R23). -/
inductive RunState where
  | stopped
  | polling
  | dispatch
  deriving DecidableEq, Repr

/-- The values ERRCAUSE can hold (R28, R191): codes 0 to 4, since "5 to 15 never occur". -/
inductive ErrCause where
  /-- 0 NONE: no error since the last clear. -/
  | noError
  /-- 1 RESERVED_OP. -/
  | reservedOp
  /-- 2 RESERVED_FIELD. -/
  | reservedField
  /-- 3 LENGTH. -/
  | length
  /-- 4 STATE. -/
  | state
  deriving DecidableEq, Repr

/-- PSTAT.PST, the status of the last decode (R31). -/
inductive DecodeStatus where
  /-- 0 NONE: no decode since reset. -/
  | notDecoded
  /-- 1 OK. -/
  | ok
  /-- 2 TOO_SHORT. -/
  | tooShort
  /-- 3 CRC_MISMATCH. -/
  | crcMismatch
  deriving DecidableEq, Repr

/-- Everything a decode writes (R31 to R34, R120): PST, FV and the P_* group. -/
@[ext]
structure Parsed where
  pst : DecodeStatus
  fv : Bool
  slave : Byte
  fc : Byte
  payLen : Len
  fa : Half
  fb : Half
  crcRx : Half
  crcCalc : Half
  deriving DecidableEq, Repr

/-- The buffers' bytes by window offset (R61): strictly rising offsets, no entry 0x00. An unlisted offset reads 0x00,
which is the reset contents of every buffer (R42 to R44). -/
abbrev Memory := List Host.Cell

/-- What the host port answered in the last cycle (R150, R152); a bus error is a `Fault` instead (R194). -/
inductive Answer where
  /-- No access was made (or the cycle was a reset cycle, R220). -/
  | silent
  /-- An accepted write. -/
  | wrote
  /-- An accepted 4-byte read's data. -/
  | word (v : Word)
  /-- An accepted 1-byte read's data. -/
  | byte (v : Byte)
  deriving DecidableEq, Repr

/-- The reasons a step stops with a fault. -/
inductive Fault where
  /-- Raised by the host phase of a cycle without reset, for an access R62 does not accept: "A model treats it as a fault
  of the host access: the run is not valid" (R194). Safe: the engine's state is unchanged there, and the model goes no
  further. -/
  | busError
  deriving DecidableEq, Repr

/-- The reasons a step has no meaning. -/
inductive Refusal where
  /-- Raised by an arm of `exec` that has no meaning yet. Safe. No arm raises it: every command has its meaning. -/
  | notModelled (mnemonic : String)
  deriving DecidableEq, Repr

/-- The state: the tuple of R20, the outputs of the last cycle, the transmit sink's record (R46), and the inputs the
environment presents from the next cycle on (R150). -/
@[ext]
structure State where
  /-- RUNSTATE (R23). -/
  runState : RunState
  /-- CTRL.RUN (R25). -/
  run : Bool
  /-- CTRL.IE (R25). -/
  ie : Bool
  /-- STATUS.VOK (R26). -/
  vok : Bool
  /-- STATUS.CMD_ERR (R26). -/
  cmdErr : Bool
  /-- STATUS.RX_OVF (R26). -/
  rxOvf : Bool
  /-- ERRCAUSE (R28). -/
  errCause : ErrCause
  /-- CRC_ACC (R29). -/
  crcAcc : Half
  /-- PLEN (R30). -/
  plen : Len
  /-- PST, FV and the P_* group (R31 to R34). -/
  parsed : Parsed
  /-- ELEN (R35). -/
  elen : Len
  /-- TLEN (R36). -/
  tlen : Len
  /-- IDLE_TO (R38). -/
  idleTo : Word
  /-- ELAPSED (R39). -/
  elapsed : Word
  /-- DIAG.FERR_CNT (R40). -/
  ferrCnt : Half
  /-- DIAG.DISC_CNT (R40). -/
  discCnt : Half
  /-- PBUF, EBUF and TBUF at their window offsets (R42 to R44, R61). -/
  mem : Memory
  /-- RXQ, the receive FIFO, oldest byte first (R45). -/
  rxq : List Byte
  /-- The host port's answer in the last cycle (R150). -/
  answer : Answer
  /-- `tx_valid` with `tx_frame` in the last cycle (R150). -/
  txFrame : Option (List Byte)
  /-- The transmit sink's record of emitted frames, oldest first; outside the engine, kept over reset (R46). -/
  txLog : List (List Byte)
  /-- The inputs of the cycles to come, the next cycle's first; DESIGN CHOICE, log entry 1. -/
  inputs : List CycleInput
  deriving DecidableEq, Repr

/-- The decode results before any decode (R31 to R34). -/
def Parsed.reset : Parsed :=
  { pst := .notDecoded, fv := false, slave := 0, fc := 0, payLen := 0, fa := 0, fb := 0, crcRx := 0, crcCalc := 0 }

/-- Every piece of state at the value R221 collects; no frame emitted yet and no input presented (log entries 1, 2). -/
def State.reset : State :=
  { runState := .stopped
    run := false
    ie := false
    vok := false
    cmdErr := false
    rxOvf := false
    errCause := .noError
    crcAcc := 0xFFFF
    plen := 0
    parsed := Parsed.reset
    elen := 0
    tlen := 0
    idleTo := 10000
    elapsed := 0
    ferrCnt := 0
    discCnt := 0
    mem := []
    rxq := []
    answer := .silent
    txFrame := none
    txLog := []
    inputs := [] }

end Sys2Proof.Machine
end

