-- ==== Sys2Proof/Machine/Ops.lean ====
section
/-! DEFINITION. The named operations over memory, registers, FIFO and ports (R11 of spec/00_scope.md). Recording a command error and the host's clearing of it stand here side by side: they are this engine's "trap entry" and "return" (R193, R200, R201 of spec/60_exceptions.md). -/

namespace Sys2Proof.Machine

/-! ## Buffer memory -/

/-- The byte at a window offset; an unlisted offset reads 0x00 (R42 to R44). -/
def Memory.read : Memory → Nat → Byte
  | [], _ => 0#8
  | (b, v) :: m, a => if a = b then v else Memory.read m a

/-- An entry in front of a memory, unless it is the byte an unlisted offset reads as. -/
def Memory.consByte (a : Nat) (v : Byte) (m : Memory) : Memory :=
  if v = 0#8 then m else (a, v) :: m

/-- Store one byte, keeping the canonical form. -/
def Memory.write : Memory → Nat → Byte → Memory
  | [], a, v => Memory.consByte a v []
  | (b, u) :: m, a, v =>
    if a < b then Memory.consByte a v ((b, u) :: m)
    else if a = b then Memory.consByte a v m
    else (b, u) :: Memory.write m a v

/-- Store a byte sequence at consecutive offsets, first byte at `a`. -/
def Memory.writeBytes : Memory → Nat → List Byte → Memory
  | m, _, [] => m
  | m, a, v :: vs => Memory.writeBytes (Memory.write m a v) (a + 1) vs

/-- The `n` bytes at consecutive offsets from `a`, first byte first. -/
def Memory.readBytes (m : Memory) (a n : Nat) : List Byte :=
  (List.range n).map (fun k => Memory.read m (a + k))

/-- Offsets rise strictly from above `lo`, and no listed byte is 0x00. -/
def Memory.wfAbove : Nat → Memory → Bool
  | _, [] => true
  | lo, (a, v) :: m => decide (lo ≤ a) && decide (v ≠ 0#8) && Memory.wfAbove (a + 1) m

/-- The canonical form: equal memories are equal lists. -/
def Memory.wf (m : Memory) : Bool := Memory.wfAbove 0 m

/-- The offsets that hold a buffer byte: PBUF, EBUF and TBUF (R61). -/
def isBufferOffset (a : Nat) : Bool :=
  (decide (pbufBase ≤ a) && decide (a < ebufBase + ebufSize)) || (decide (tbufBase ≤ a) && decide (a < windowSize))

/-- Every listed offset is a buffer byte's: "The engine has no ... data memory of its own beyond the buffers" (R60). -/
def Memory.inBuffers (m : Memory) : Bool := m.all (fun c => isBufferOffset c.1)

/-! ## Register updates -/

/-- RUNSTATE <- r (R23). -/
def State.setRunState (s : State) (r : RunState) : State := { s with runState := r }

/-- CTRL.RUN <- run, CTRL.IE <- ie (R25). -/
def State.setCtrl (s : State) (run ie : Bool) : State := { s with run := run, ie := ie }

/-- STATUS.VOK <- v (R26). -/
def State.setVok (s : State) (v : Bool) : State := { s with vok := v }

/-- STATUS.RX_OVF <- v (R26). -/
def State.setRxOvf (s : State) (v : Bool) : State := { s with rxOvf := v }

/-- CRC_ACC <- v (R29). -/
def State.setCrcAcc (s : State) (v : Half) : State := { s with crcAcc := v }

/-- PLEN <- v (R30). -/
def State.setPlen (s : State) (v : Len) : State := { s with plen := v }

/-- PST, FV and the P_* group, all together (R31 to R34). -/
def State.setParsed (s : State) (p : Parsed) : State := { s with parsed := p }

/-- ELEN <- v (R35). -/
def State.setElen (s : State) (v : Len) : State := { s with elen := v }

/-- TLEN <- v (R36). -/
def State.setTlen (s : State) (v : Len) : State := { s with tlen := v }

/-- IDLE_TO <- v (R38). -/
def State.setIdleTo (s : State) (v : Word) : State := { s with idleTo := v }

/-- ELAPSED <- v (R39). -/
def State.setElapsed (s : State) (v : Word) : State := { s with elapsed := v }

/-- DIAG's two counters (R40). -/
def State.setDiag (s : State) (ferr disc : Half) : State := { s with ferrCnt := ferr, discCnt := disc }

/-- Buffer memory (R42 to R44). -/
def State.setMem (s : State) (m : Memory) : State := { s with mem := m }

/-- RXQ <- q (R45). -/
def State.setRxq (s : State) (q : List Byte) : State := { s with rxq := q }

/-- The host port's answer (R150). -/
def State.setAnswer (s : State) (a : Answer) : State := { s with answer := a }

/-- The inputs still to come (R150). -/
def State.setInputs (s : State) (is : List CycleInput) : State := { s with inputs := is }

/-! ## Errors and their clearing -/

/-- `raise CmdError(cause)`: STATUS.CMD_ERR <- 1 and ERRCAUSE <- cause, nothing else; the last error wins (R193). -/
def State.raiseCmdError (s : State) (c : ErrCause) : State := { s with cmdErr := true, errCause := c }

/-- The host's W1C of CMD_ERR, which also clears ERRCAUSE (R26, R201). -/
def State.clearCmdError (s : State) : State := { s with cmdErr := false, errCause := .noError }

/-! ## Ports -/

/-- `emit(seq)`: hand a byte sequence to the transmit sink as one frame, in this cycle (R11, R46, R160). -/
def State.emit (s : State) (f : List Byte) : State := { s with txFrame := some f, txLog := s.txLog ++ [f] }

/-- No answer and no frame yet: the outputs at the start of a cycle (R150). -/
def State.clearOutputs (s : State) : State := { s with answer := .silent, txFrame := none }

/-- Go on with the state of an outcome that has one. -/
def andThen (o : Host.Outcome State Fault Refusal) (f : State → State) : Host.Outcome State Fault Refusal :=
  match o with
  | .next s => .next (f s)
  | .fault r => .fault r
  | .refused r => .refused r

/-! ## Counters -/

/-- "Counters that wrap compute (v + 1) mod 2^N" (R12, R40). -/
def wrapInc (v : Half) : Half := v + 1#16

/-- "ELAPSED saturates: it computes min(v + 1, 2^32 - 1)" (R12, R39). -/
def saturatingInc (v : Word) : Word := if v = 0xFFFFFFFF#32 then v else v + 1#32

end Sys2Proof.Machine
end

