-- ==== Sys2Proof/Machine/Operands.lean ====
section
/-! DEFINITION. The operands commands read and write: the buffers by length register (R42 to R44 of spec/10_state.md) and the wire byte orders (R86 to R88 of spec/30_encoding.md). -/

namespace Sys2Proof.Machine

/-- PBUF[0..n). -/
def State.pbufBytes (s : State) (n : Nat) : List Byte := Memory.readBytes s.mem pbufBase n

/-- EBUF[0..n). -/
def State.ebufBytes (s : State) (n : Nat) : List Byte := Memory.readBytes s.mem ebufBase n

/-- TBUF[0..n). -/
def State.tbufBytes (s : State) (n : Nat) : List Byte := Memory.readBytes s.mem tbufBase n

/-- The frame in the parse buffer, PBUF[0..PLEN) (R42). -/
def State.parseFrame (s : State) : List Byte := s.pbufBytes s.plen.toNat

/-- The frame in the transmit buffer, TBUF[0..TLEN) (R44). -/
def State.txBuffer (s : State) : List Byte := s.tbufBytes s.tlen.toNat

/-- `(hi << 8) | lo` (R10). -/
def u16 (hi lo : Byte) : Half := hi ++ lo

/-- The low byte, `c[7:0]`. -/
def loByte (c : Half) : Byte := c.extractLsb' 0 8

/-- The high byte, `c[15:8]`. -/
def hiByte (c : Half) : Byte := c.extractLsb' 8 8

/-- A CRC as it stands on the wire: low byte first (R88). -/
def leBytes (c : Half) : List Byte := [loByte c, hiByte c]

/-- Byte i of a sequence the caller knows to be long enough. -/
def byteAt (raw : List Byte) (i : Nat) : Byte := raw.getD i 0#8

/-- All but the last two bytes: the bytes a frame's CRC covers, `frame[:-2]` (R86, R106). -/
def coveredBytes (raw : List Byte) : List Byte := raw.take (raw.length - 2)

/-- `little_endian_u16(frame[-2:])` (R88). -/
def receivedCrc (raw : List Byte) : Half := u16 (byteAt raw (raw.length - 1)) (byteAt raw (raw.length - 2))

/-- Field A, `(raw[2] << 8) | raw[3]` (R87). -/
def fieldA (raw : List Byte) : Half := u16 (byteAt raw 2) (byteAt raw 3)

/-- Field B, `(raw[4] << 8) | raw[5]` (R87). -/
def fieldB (raw : List Byte) : Half := u16 (byteAt raw 4) (byteAt raw 5)

end Sys2Proof.Machine
end

