-- ==== Sys2Proof/Machine/Flags.lean ====
section
/-! DEFINITION. The status bits and codes and how registers are made of them (R24, R26, R28, R31, R47, R48 of spec/10_state.md). -/

namespace Sys2Proof.Machine

/-- `irq = CTRL.IE & (RUNSTATE == DISPATCH)` (R47, R198). -/
def State.irq (s : State) : Bool := s.ie && decide (s.runState = .dispatch)

/-- STATUS.LSTATE (R24). -/
def State.lstate (s : State) : BitVec 2 :=
  match s.runState with
  | .stopped => 0#2
  | .polling => if s.rxq = [] then 1#2 else 2#2
  | .dispatch => 3#2

/-- ERRCAUSE's code (R191). -/
def ErrCause.code : ErrCause → BitVec 4
  | .noError => 0#4
  | .reservedOp => 1#4
  | .reservedField => 2#4
  | .length => 3#4
  | .state => 4#4

/-- PSTAT.PST's code (R31). -/
def DecodeStatus.code : DecodeStatus → BitVec 2
  | .notDecoded => 0#2
  | .ok => 1#2
  | .tooShort => 2#2
  | .crcMismatch => 3#2

/-- The function codes whose fields are extracted: 0x01, 0x03 and 0x05 (R89, R120). -/
def recognized (fc : Byte) : Bool := decide (fc = 0x01#8) || decide (fc = 0x03#8) || decide (fc = 0x05#8)

/-- RXCNT, `len(RXQ)` (R37). -/
def State.rxcnt (s : State) : Len := BitVec.ofNat 9 s.rxq.length

/-- CTRL as read: `zext_32(IE << 1 | RUN)` (R25). -/
def State.ctrlWord (s : State) : Word := 0#30 ++ BitVec.ofBool s.ie ++ BitVec.ofBool s.run

/-- STATUS as read (R26): RX_OVF at bit 9, CMD_ERR at 8, VOK at 3, IRQ at 2, LSTATE at 1:0. -/
def State.statusWord (s : State) : Word :=
  0#22 ++ BitVec.ofBool s.rxOvf ++ BitVec.ofBool s.cmdErr ++ 0#4 ++ BitVec.ofBool s.vok ++ BitVec.ofBool s.irq ++ s.lstate

/-- PSTAT as read (R31): FV at bit 4, PST at 1:0. -/
def Parsed.pstatWord (p : Parsed) : Word := 0#27 ++ BitVec.ofBool p.fv ++ 0#2 ++ p.pst.code

/-- PHDR as read (R32): P_PAYLEN at 24:16, P_FC at 15:8, P_SLAVE at 7:0. -/
def Parsed.phdrWord (p : Parsed) : Word := 0#7 ++ p.payLen ++ p.fc ++ p.slave

/-- PFLD as read (R33): P_FB at 31:16, P_FA at 15:0. -/
def Parsed.pfldWord (p : Parsed) : Word := p.fb ++ p.fa

/-- PCRC as read (R34): P_CRC_CALC at 31:16, P_CRC_RX at 15:0. -/
def Parsed.pcrcWord (p : Parsed) : Word := p.crcCalc ++ p.crcRx

/-- DIAG as read (R40): DISC_CNT at 31:16, FERR_CNT at 15:0. -/
def State.diagWord (s : State) : Word := s.discCnt ++ s.ferrCnt

end Sys2Proof.Machine
end

