-- ==== Sys2Proof/Machine/Crc.lean ====
section
/-! DEFINITION. The CRC unit: the one CRC function and the four commands over CRC_ACC (spec/40_crc.md). -/

namespace Sys2Proof.Machine

/-- One of the 8 iterations: the low bit is tested before the shift (R100). -/
def crcBit (acc : Half) : Half := if acc.getLsbD 0 then (acc >>> 1) ^^^ crcPoly else acc >>> 1

/-- `k` iterations of `crcBit`. -/
def crcBits : Nat → Half → Half
  | 0, acc => acc
  | k + 1, acc => crcBits k (crcBit acc)

/-- `crc_step(acc, b)`: XOR the byte into bits 7:0, then 8 iterations (R100). -/
def crcStep (acc : Half) (b : Byte) : Half := crcBits 8 (acc ^^^ b.setWidth 16)

/-- `crc_step` folded over a byte sequence, first byte first. -/
def crcFold (acc : Half) (bs : List Byte) : Half := bs.foldl crcStep acc

/-- `crc16(seq)` (R101). -/
def crc16 (bs : List Byte) : Half := crcFold crcInitial bs

/-- CRC_INIT: CRC_ACC <- 0xFFFF (R103). -/
def execCrcInit (s : State) : Host.Outcome State Fault Refusal := .next (s.setCrcAcc crcInitial)

/-- CRC_FEED: CRC_ACC <- crc_step(CRC_ACC, A) (R104). -/
def execCrcFeed (a : Byte) (s : State) : Host.Outcome State Fault Refusal := .next (s.setCrcAcc (crcStep s.crcAcc a))

/-- PLEN > 256: the length check of CRC_COMPUTE, CRC_VERIFY and DECODE (R191, R192). -/
def State.plenTooLong (s : State) : Bool := decide (pbufSize < s.plen.toNat)

/-- CRC_COMPUTE: CRC_ACC <- crc16(PBUF[0..PLEN)), or cause 3 (R105). -/
def execCrcCompute (s : State) : Host.Outcome State Fault Refusal :=
  if s.plenTooLong then .next (s.raiseCmdError .length) else .next (s.setCrcAcc (crc16 s.parseFrame))

/-- CRC_VERIFY: below 2 bytes VOK <- 0 alone; else CRC_ACC and VOK; or cause 3 (R106). -/
def execCrcVerify (s : State) : Host.Outcome State Fault Refusal :=
  if s.plenTooLong then .next (s.raiseCmdError .length)
  else if s.plen.toNat < 2 then .next (s.setVok false)
  else
    let c := crc16 (coveredBytes s.parseFrame)
    .next ((s.setCrcAcc c).setVok (decide (c = receivedCrc s.parseFrame)))

end Sys2Proof.Machine
end

