-- ==== Sys2Proof/Machine/Codec.lean ====
section
/-! DEFINITION. The frame codec: decode, DECODE, ENCODE and ENCODE_EXC (spec/41_frame_codec.md). -/

namespace Sys2Proof.Machine

/-- The results of a decode that found no good frame: every field 0 but the two CRCs (R120, D11). -/
def rejectedFrame (status : DecodeStatus) (rx computed : Half) : Parsed :=
  { pst := status, fv := false, slave := 0, fc := 0, payLen := 0, fa := 0, fb := 0, crcRx := rx, crcCalc := computed }

/-- `decode()` as a function of the frame PBUF[0..PLEN), with the checks in the spec's order (R120). -/
def decodeFrame (raw : List Byte) : Parsed :=
  if raw.length < minFrame then rejectedFrame .tooShort 0 0
  else
    let rx := receivedCrc raw
    let computed := crc16 (coveredBytes raw)
    if rx ≠ computed then rejectedFrame .crcMismatch rx computed
    else
      let known := recognized (byteAt raw 1)
      { pst := .ok
        fv := known
        slave := byteAt raw 0
        fc := byteAt raw 1
        payLen := BitVec.ofNat 9 (raw.length - 4)
        fa := if known then fieldA raw else 0
        fb := if known then fieldB raw else 0
        crcRx := rx
        crcCalc := computed }

/-- `decode()` on the state: it writes PST, FV and the P_* group and nothing else (R120). -/
def State.decodeParseBuffer (s : State) : State := s.setParsed (decodeFrame s.parseFrame)

/-- DECODE (R121). -/
def execDecode (s : State) : Host.Outcome State Fault Refusal :=
  if s.plenTooLong then .next (s.raiseCmdError .length) else .next s.decodeParseBuffer

/-- A frame's bytes with their CRC appended, low byte first (R86, R88). -/
def withCrc (bs : List Byte) : List Byte := bs ++ leBytes (crc16 bs)

/-- The response frame ENCODE builds: `[A][B] + payload + crc LE` (R122). -/
def responseFrame (a b : Byte) (payload : List Byte) : List Byte := withCrc (a :: b :: payload)

/-- The exception frame ENCODE_EXC builds: `[A][B | 0x80][C] + crc LE` (R90, R123). -/
def exceptionFrame (a b c : Byte) : List Byte := withCrc [a, b ||| 0x80#8, c]

/-- Put a frame in TBUF[0..len) and its length in TLEN; the bytes beyond keep their values (R44, R122, R123). -/
def State.loadTx (s : State) (f : List Byte) : State :=
  (s.setMem (Memory.writeBytes s.mem tbufBase f)).setTlen (BitVec.ofNat 9 f.length)

/-- ENCODE, or cause 3 when ELEN > 252 (R122). -/
def execEncode (a b : Byte) (s : State) : Host.Outcome State Fault Refusal :=
  if ebufSize < s.elen.toNat then .next (s.raiseCmdError .length)
  else .next (s.loadTx (responseFrame a b (s.ebufBytes s.elen.toNat)))

/-- ENCODE_EXC; it raises no error (R123). -/
def execEncodeExc (a b c : Byte) (s : State) : Host.Outcome State Fault Refusal :=
  .next (s.loadTx (exceptionFrame a b c))

end Sys2Proof.Machine
end

