-- ==== Sys2Proof/Machine/Loop.lean ====
section
/-! DEFINITION. The frame boundary detector and idle watchdog: the line byte, tick and loop phases, the CTRL write, and the commands DONE_TX, DONE_DROP, RX_FLUSH and NOP (spec/42_frame_detector.md). -/

namespace Sys2Proof.Machine

/-- `rx_push(b)`: queue a received byte, or lose it and set RX_OVF when the FIFO is full; in every RUNSTATE (R153). -/
def rxPush (b : Byte) (s : State) : State :=
  if s.rxq.length < rxqDepth then s.setRxq (s.rxq ++ [b]) else s.setRxOvf true

/-- `tick_step()`: ELAPSED counts while the loop runs, DISPATCH included (R154). -/
def tickStep (s : State) : State :=
  if s.runState = .stopped then s else s.setElapsed (saturatingInc s.elapsed)

/-- What a capture does after its decode: DISPATCH for an OK frame, else the silent drop and FERR_CNT (R155, R195). -/
def settleCapture (s : State) : State :=
  if s.parsed.pst = .ok then s.setRunState .dispatch else s.setDiag (wrapInc s.ferrCnt) s.discCnt

/-- `fifo_pop8()` into PBUF[0..8), PLEN <- 8, ELAPSED <- 0: a capture up to its decode (R155). -/
def takeFrame (s : State) : State :=
  let f := s.rxq.take frameLen
  (((s.setRxq (s.rxq.drop frameLen)).setMem (Memory.writeBytes s.mem pbufBase f)).setPlen (BitVec.ofNat 9 frameLen)).setElapsed 0

/-- `capture()` (R155). -/
def capture (s : State) : State := settleCapture (takeFrame s).decodeParseBuffer

/-- `flush()`: DISC_CNT counts it only if it discarded a byte (R156). -/
def flush (s : State) : State :=
  let s' := (s.setRxq []).setElapsed 0
  if s.rxq = [] then s' else s'.setDiag s'.ferrCnt (wrapInc s'.discCnt)

/-- The watchdog's test, `ELAPSED > IDLE_TO`, strictly (R156, D7). -/
def State.idleExpired (s : State) : Bool := decide (s.idleTo < s.elapsed)

/-- `loop_step()`: at most one of capture and flush, capture first (R157). -/
def loopStep (s : State) : State :=
  if frameLen ≤ s.rxq.length then capture s
  else if s.idleExpired then flush s
  else s

/-- Phase 4: the loop acts in POLLING alone (R151, R158). -/
def loopPhase (s : State) : State :=
  match s.runState with
  | .polling => loopStep s
  | .stopped => s
  | .dispatch => s

/-- A write of CTRL with RUN and IE: it starts or stops the loop, or leaves a stop pending in DISPATCH (R159). -/
def writeCtrl (run ie : Bool) (s : State) : State :=
  let s' := s.setCtrl run ie
  match s.runState, run with
  | .stopped, true => (s'.setRunState .polling).setElapsed 0
  | .stopped, false => s'
  | .polling, true => s'
  | .polling, false => s'.setRunState .stopped
  | .dispatch, _ => s'

/-- The end of a dispatch: POLLING, or STOPPED when a stop is pending (R160, R161). -/
def endDispatch (s : State) : State := s.setRunState (if s.run then .polling else .stopped)

/-- DONE_TX: emit TBUF[0..TLEN) and end the dispatch, or cause 4 (R160). -/
def execDoneTx (s : State) : Host.Outcome State Fault Refusal :=
  if s.runState = .dispatch then .next (endDispatch (s.emit s.txBuffer)) else .next (s.raiseCmdError .state)

/-- DONE_DROP: end the dispatch with no response, or cause 4 (R161). -/
def execDoneDrop (s : State) : Host.Outcome State Fault Refusal :=
  if s.runState = .dispatch then .next (endDispatch s) else .next (s.raiseCmdError .state)

/-- RX_FLUSH: RXQ <- empty (R162). -/
def execRxFlush (s : State) : Host.Outcome State Fault Refusal := .next (s.setRxq [])

/-- NOP: nothing (R163). -/
def execNop (s : State) : Host.Outcome State Fault Refusal := .next s

end Sys2Proof.Machine
end

