-- ==== Sys2Proof/Machine/Dispatch.lean ====
section
/-! DEFINITION. One arm per command: the effect of a decoded command in the host phase, its checks of causes 3 and 4 included (R80, R152). Causes 1 and 2 are the decoder's. -/

namespace Sys2Proof.Machine

def exec (i : Instr) (s : State) : Host.Outcome State Fault Refusal :=
  match i with
  | .nop => Sys2Proof.Machine.execNop s
  | .crcInit => Sys2Proof.Machine.execCrcInit s
  | .crcFeed a => Sys2Proof.Machine.execCrcFeed a s
  | .crcCompute => Sys2Proof.Machine.execCrcCompute s
  | .crcVerify => Sys2Proof.Machine.execCrcVerify s
  | .decode => Sys2Proof.Machine.execDecode s
  | .encode a b => Sys2Proof.Machine.execEncode a b s
  | .encodeExc a b c => Sys2Proof.Machine.execEncodeExc a b c s
  | .doneTx => Sys2Proof.Machine.execDoneTx s
  | .doneDrop => Sys2Proof.Machine.execDoneDrop s
  | .rxFlush => Sys2Proof.Machine.execRxFlush s

end Sys2Proof.Machine
end

