-- ==== Sys2Proof/Machine/Bus.lean ====
section
/-! DEFINITION. The host port: which accesses are accepted, what a read returns, what a write does, and the execution of a word written to CMD (spec/20_memory.md; R80, R152, R192 of spec/). -/

namespace Sys2Proof.Machine

/-- The registers of the summary map (spec/10_state.md, section 3). -/
inductive Reg where
  | ctrl
  | status
  | cmd
  | errcause
  | crc
  | plen
  | pstat
  | phdr
  | pfld
  | pcrc
  | elen
  | tlen
  | rxcnt
  | idleTo
  | elapsed
  | diag
  deriving DecidableEq, Repr

/-- A register's offset from BASE (R25 to R40). -/
def Reg.offset : Reg → Offset
  | .ctrl => 0x000#10
  | .status => 0x004#10
  | .cmd => 0x008#10
  | .errcause => 0x00C#10
  | .crc => 0x010#10
  | .plen => 0x014#10
  | .pstat => 0x018#10
  | .phdr => 0x01C#10
  | .pfld => 0x020#10
  | .pcrc => 0x024#10
  | .elen => 0x028#10
  | .tlen => 0x02C#10
  | .rxcnt => 0x030#10
  | .idleTo => 0x034#10
  | .elapsed => 0x038#10
  | .diag => 0x03C#10

/-- The register at an offset; none at a reserved offset (R41, R61). -/
def regAt (off : Offset) : Option Reg :=
  match off with
  | 0x000#10 => some .ctrl
  | 0x004#10 => some .status
  | 0x008#10 => some .cmd
  | 0x00C#10 => some .errcause
  | 0x010#10 => some .crc
  | 0x014#10 => some .plen
  | 0x018#10 => some .pstat
  | 0x01C#10 => some .phdr
  | 0x020#10 => some .pfld
  | 0x024#10 => some .pcrc
  | 0x028#10 => some .elen
  | 0x02C#10 => some .tlen
  | 0x030#10 => some .rxcnt
  | 0x034#10 => some .idleTo
  | 0x038#10 => some .elapsed
  | 0x03C#10 => some .diag
  | _ => none

/-- The number of bytes of an access size. -/
def accessBytes : AccessSize → Nat
  | .one => 1
  | .two => 2
  | .four => 4

/-- The size of an access. -/
def opSize : BusOp → AccessSize
  | .read n => n
  | .write1 _ => .one
  | .write2 _ => .two
  | .write4 _ => .four

/-- `accepted(off, n)` (R62). -/
def accepted (off : Offset) (n : Nat) : Bool :=
  (decide (off.toNat < 0x100) && decide (n = 4) && decide (off.toNat % 4 = 0)) ||
    (decide (0x100 ≤ off.toNat) && decide (off.toNat < 0x400) && decide (n = 1))

/-- An access R62 accepts. -/
def acceptedAccess (a : HostAccess) : Bool := accepted a.off (accessBytes (opSize a.op))

/-- What the window's port sees of a host access at an absolute address: "A host access outside the window is not an
access to the engine" (R60). -/
def portAccess (addr : Nat) (op : BusOp) : Option HostAccess :=
  if Config.base ≤ addr ∧ addr < Config.base + windowSize then
    some { off := BitVec.ofNat 10 (addr - Config.base), op := op }
  else none

/-- A register's value as read (R25 to R40); CMD reads 0 (R27). -/
def readReg (s : State) : Reg → Word
  | .ctrl => s.ctrlWord
  | .status => s.statusWord
  | .cmd => 0#32
  | .errcause => 0#28 ++ s.errCause.code
  | .crc => 0#16 ++ s.crcAcc
  | .plen => 0#23 ++ s.plen
  | .pstat => s.parsed.pstatWord
  | .phdr => s.parsed.phdrWord
  | .pfld => s.parsed.pfldWord
  | .pcrc => s.parsed.pcrcWord
  | .elen => 0#23 ++ s.elen
  | .tlen => 0#23 ++ s.tlen
  | .rxcnt => 0#23 ++ s.rxcnt
  | .idleTo => s.idleTo
  | .elapsed => s.elapsed
  | .diag => s.diagWord

/-- A 4-byte read in the register region; a reserved offset reads 0 (R41, R63). -/
def readWordAt (s : State) (off : Offset) : Word :=
  match regAt off with
  | some r => readReg s r
  | none => 0#32

/-- A 1-byte read in the buffer regions; the reserved bytes 0x2FC to 0x2FF read 0 (R41, R63). -/
def readByteAt (s : State) (off : Offset) : Byte :=
  if isBufferOffset off.toNat then Memory.read s.mem off.toNat else 0#8

/-- An accepted read's answer (R63). -/
def busRead (s : State) (off : Offset) : AccessSize → Answer
  | .four => .word (readWordAt s off)
  | .one => .byte (readByteAt s off)
  | .two => .silent

/-- A write of STATUS: W1C of CMD_ERR (with ERRCAUSE) by bit 8 and of RX_OVF by bit 9; every other bit ignored (R26). -/
def writeStatus (v : Word) (s : State) : State :=
  let s' := if v.getLsbD 8 then s.clearCmdError else s
  if v.getLsbD 9 then s'.setRxOvf false else s'

/-- A word written to CMD: the whole command, checks and effects (R80, R152); causes 1 and 2 are raised here (R192). -/
def command (w : Word) (s : State) : Host.Outcome State Fault Refusal :=
  match decodeWord w with
  | .ok i => exec i s
  | .reservedOp => .next (s.raiseCmdError .reservedOp)
  | .reservedField => .next (s.raiseCmdError .reservedField)

/-- An accepted 4-byte write's effect, by register (R64); read-only registers ignore it (R41). -/
def writeReg (r : Reg) (v : Word) (s : State) : Host.Outcome State Fault Refusal :=
  match r with
  | .ctrl => .next (writeCtrl (v.getLsbD 0) (v.getLsbD 1) s)
  | .status => .next (writeStatus v s)
  | .cmd => command v s
  | .plen => .next (s.setPlen (v.setWidth 9))
  | .elen => .next (s.setElen (v.setWidth 9))
  | .idleTo => .next (s.setIdleTo v)
  | .diag => .next (s.setDiag 0 0)
  | .errcause | .crc | .pstat | .phdr | .pfld | .pcrc | .tlen | .rxcnt | .elapsed => .next s

/-- A 4-byte write in the register region; a reserved offset ignores it (R41, R64). -/
def writeWordAt (off : Offset) (v : Word) (s : State) : Host.Outcome State Fault Refusal :=
  match regAt off with
  | some r => writeReg r v s
  | none => .next s

/-- The buffer bytes a host may write: PBUF and EBUF; TBUF and the reserved tail ignore writes (R41 to R44). -/
def hostWritable (a : Nat) : Bool := decide (pbufBase ≤ a) && decide (a < ebufBase + ebufSize)

/-- A 1-byte write in the buffer regions (R64). -/
def writeByteAt (off : Offset) (v : Byte) (s : State) : State :=
  if hostWritable off.toNat then s.setMem (Memory.write s.mem off.toNat v) else s

/-- An accepted access's effect and answer (R63, R64). -/
def busAccess (a : HostAccess) (s : State) : Host.Outcome State Fault Refusal :=
  match a.op with
  | .read n => .next (s.setAnswer (busRead s a.off n))
  | .write1 v => .next ((writeByteAt a.off v s).setAnswer .wrote)
  | .write2 _ => .next s
  | .write4 v => andThen (writeWordAt a.off v s) (fun t => t.setAnswer .wrote)

/-- `host_access`: a bus error for what R62 does not accept, else the access (R152, R194). -/
def hostAccess (a : HostAccess) (s : State) : Host.Outcome State Fault Refusal :=
  if acceptedAccess a then busAccess a s else .fault .busError

end Sys2Proof.Machine
end

