-- ==== Sys2Proof/Machine/Cycle.lean ====
section
/-! DEFINITION. One cycle of the engine: reset, or the four phases in their fixed order (R151, R199, R220 of spec/), and the input of the next cycle. -/

namespace Sys2Proof.Machine

/-- A cycle with no input (R93 `idle`). -/
def idleInput : CycleInput := { rst := false, host := none, rx := none, tick := false }

/-- A cycle in which the host writes a word to CMD and nothing else happens (R80). -/
def commandInput (w : Word) : CycleInput :=
  { rst := false, host := some { off := Reg.cmd.offset, op := .write4 w }, rx := none, tick := false }

/-- The next cycle's input; none listed is an idle cycle (DESIGN CHOICE, log entry 1). -/
def State.nextInput (s : State) : CycleInput :=
  match s.inputs with
  | [] => idleInput
  | i :: _ => i

/-- The start of a cycle: its input is taken and no output stands yet (R150). -/
def State.beginCycle (s : State) : State := (s.setInputs s.inputs.tail).clearOutputs

/-- A reset cycle: every part of the tuple at its reset value; the sink's record and the inputs to come are not the
engine's (R46, R220). -/
def resetCycle (s : State) : State := { State.reset with txLog := s.txLog, inputs := s.inputs }

/-- Phase 1 (R152). -/
def hostPhase (host : Option HostAccess) (s : State) : Host.Outcome State Fault Refusal :=
  match host with
  | none => .next s
  | some a => hostAccess a s

/-- Phase 2 (R153). -/
def linePhase (rx : Option Byte) (s : State) : State :=
  match rx with
  | none => s
  | some b => rxPush b s

/-- Phase 3 (R154). -/
def tickPhase (tick : Bool) (s : State) : State := if tick then tickStep s else s

/-- Phases 2, 3 and 4, which follow the host access (R151). -/
def laterPhases (rx : Option Byte) (tick : Bool) (s : State) : State := loopPhase (tickPhase tick (linePhase rx s))

/-- `cycle(host, rx, tick)`, or reset alone (R151, R199 (e), R220). -/
def cycle (i : CycleInput) (s : State) : Host.Outcome State Fault Refusal :=
  if i.rst then .next (resetCycle s) else andThen (hostPhase i.host s) (laterPhases i.rx i.tick)

/-- The CMD write of a host word put before the inputs to come. -/
def State.presentCommand (s : State) (w : Word) : State := s.setInputs (commandInput w :: s.inputs)

end Sys2Proof.Machine
end

