-- ==== Sys2Proof/Machine/Step.lean ====
section
/-! DEFINITION. The step: one clock cycle (R151 of spec/42_frame_detector.md). -/

namespace Sys2Proof.Machine

/-- "One model step is one cycle" (R151). -/
def step (s : State) : Host.Outcome State Fault Refusal := cycle s.nextInput s.beginCycle

/-- The engine fetches nothing (R69): a command runs when the host writes its word to CMD. The next cycle's input is
that write, and the inputs already listed follow it (log entry 3). -/
def State.withFetchWord (s : State) (nbits w : Nat) : State := s.presentCommand (tableWord nbits w)

end Sys2Proof.Machine
end

