-- ==== Sys2Proof/Machine/Program.lean ====
section
/-! DEFINITION. What a host program line stands for (R93 of spec/30_encoding.md) and what a pseudo-instruction expands to (R94). -/

namespace Sys2Proof.Machine

/-- A cycle with a host access alone. -/
def hostInput (a : HostAccess) : CycleInput := { rst := false, host := some a, rx := none, tick := false }

/-- One cycle's input, by line (R93). -/
def lineInput : HostLine → CycleInput
  | .wr off v => hostInput { off := off, op := .write4 v }
  | .rd off => hostInput { off := off, op := .read .four }
  | .wrb off v => hostInput { off := off, op := .write1 v }
  | .rdb off => hostInput { off := off, op := .read .one }
  | .rx v => { rst := false, host := none, rx := some v, tick := false }
  | .tick => { rst := false, host := none, rx := none, tick := true }
  | .idle => idleInput
  | .cycle host rx tick => { rst := false, host := host, rx := rx, tick := tick }
  | .cmd i => commandInput (encodeWord i)

/-- `wrb base+0, b0` ... `wrb base+(n-1), b(n-1)` (R94). -/
def storeLines : Nat → List Byte → List HostLine
  | _, [] => []
  | a, b :: bs => .wrb (BitVec.ofNat 10 a) b :: storeLines (a + 1) bs

/-- The lines of a pseudo-instruction, one cycle each (R94). -/
def expandPseudo : Pseudo → List HostLine
  | .loadp bs => storeLines pbufBase bs ++ [.wr Reg.plen.offset (BitVec.ofNat 32 bs.length)]
  | .loade bs => storeLines ebufBase bs ++ [.wr Reg.elen.offset (BitVec.ofNat 32 bs.length)]
  | .crcbytes bs => .cmd .crcInit :: bs.map (fun b => .cmd (.crcFeed b))
  | .start => [.wr Reg.ctrl.offset 0x1]
  | .startIrq => [.wr Reg.ctrl.offset 0x3]
  | .stop => [.wr Reg.ctrl.offset 0x0]
  | .clrerr => [.wr Reg.status.offset 0x100]
  | .clrovf => [.wr Reg.status.offset 0x200]
  | .send a b => [.cmd (.encode a b), .cmd .doneTx]
  | .rxframe bs => bs.map (fun b => .rx b)
  | .ticks n => List.replicate n .tick

end Sys2Proof.Machine
end

