-- ==== Sys2Proof/Safety.lean ====
section
/-! DEFINITION. The terms the statements about the machine use: its invariant, runs of commands and of cycles, and what a cycle's input asks for. -/

namespace Sys2Proof.Machine

/-! ## Runs -/

/-- Commands one after another, without the other phases of their cycles. -/
def runCommands : List Instr → State → Host.Outcome State Fault Refusal
  | [], s => .next s
  | i :: is, s =>
    match exec i s with
    | .next t => runCommands is t
    | .fault r => .fault r
    | .refused r => .refused r

/-- A number of cycles. -/
def runCycles : Nat → State → Host.Outcome State Fault Refusal
  | 0, s => .next s
  | n + 1, s =>
    match step s with
    | .next t => runCycles n t
    | .fault r => .fault r
    | .refused r => .refused r

/-! ## What a cycle's input asks for -/

/-- The input makes no host access and no reset: line bytes and ticks alone (R166). -/
def lineOnly (i : CycleInput) : Prop := i.rst = false ∧ i.host = none

/-- The input writes a 32-bit register, outside reset. -/
def writesReg (i : CycleInput) (r : Reg) (v : Word) : Prop :=
  i.rst = false ∧ i.host = some { off := r.offset, op := .write4 v }

/-- The command the input's host access executes, if it writes a defined, well-formed word to CMD outside reset. -/
def cycleCommand (i : CycleInput) : Option Instr :=
  match i.rst, i.host with
  | false, some { off := off, op := .write4 w } => if off = Reg.cmd.offset then (decodeWord w).instr? else none
  | _, _ => none

/-- A one-format word's meaning (CMD-0, R82, R83): of the words whose OP is that of `word`, `word` alone executes `i`;
every other has a non-zero field and is refused with cause 2. -/
def IsCmd0Word (word : Word) (i : Instr) : Prop :=
  ∀ (s : State) (w : Word), w.extractLsb' 0 8 = word.extractLsb' 0 8 →
    (w = word → command w s = exec i s) ∧
    (w ≠ word → command w s = .next { s with cmdErr := true, errCause := .reservedField })

/-! ## The CRC as a bit-serial circuit -/

/-- One shift of the serial register: the incoming bit is compared with the low bit (a second design of R100). -/
def serialShift (acc : Half) (bit : Bool) : Half :=
  if acc.getLsbD 0 ^^ bit then (acc >>> 1) ^^^ 0xA001#16 else acc >>> 1

/-- A byte's bits, bit 0 first. -/
def byteBits (b : Byte) : List Bool := (List.range 8).map b.getLsbD

/-- The serial register after a byte sequence, from 0xFFFF. -/
def serialCrc (bs : List Byte) : Half := (bs.flatMap byteBits).foldl serialShift 0xFFFF#16

/-- A byte sequence with bit `j` of byte `k` inverted. -/
def flipBit (bs : List Byte) (k j : Nat) : List Byte := bs.set k (bs.getD k 0#8 ^^^ (1#8 <<< j))

/-! ## The invariant -/

/-- What holds of every state the engine reaches. -/
structure State.Inv (s : State) : Prop where
  /-- Buffer memory is in canonical form. -/
  memCanonical : s.mem.wf = true
  /-- Only buffer bytes are listed (R60). -/
  memInBuffers : s.mem.inBuffers = true
  /-- The FIFO holds at most RXQ_DEPTH bytes (R45). -/
  fifoFits : s.rxq.length ≤ 256
  /-- TLEN is 0 to 256 (R36). -/
  txFits : s.tlen.toNat ≤ 256
  /-- A stopped loop has RUN = 0 (R159 to R161). -/
  stoppedRun : s.runState = .stopped → s.run = false
  /-- A polling loop has RUN = 1: a stop is pending in DISPATCH only (R49, R159). -/
  pollingRun : s.runState = .polling → s.run = true
  /-- CMD_ERR and a cause stand together (R26, R193). -/
  errRecorded : s.cmdErr = true ↔ s.errCause ≠ .noError
  /-- FV = 1 iff PST = OK and P_FC is 0x01, 0x03 or 0x05 (R31). -/
  fieldsValid : s.parsed.fv = true ↔ s.parsed.pst = .ok ∧ (s.parsed.fc = 0x01#8 ∨ s.parsed.fc = 0x03#8 ∨ s.parsed.fc = 0x05#8)
  /-- PHDR's fields are 0 unless PST = OK (R32). -/
  headerZero : s.parsed.pst ≠ .ok → s.parsed.slave = 0#8 ∧ s.parsed.fc = 0#8 ∧ s.parsed.payLen = 0#9
  /-- An OK frame's payload is 4 to 252 bytes (R32, R120). -/
  payloadFits : s.parsed.pst = .ok → 4 ≤ s.parsed.payLen.toNat ∧ s.parsed.payLen.toNat ≤ 252
  /-- P_FA and P_FB are 0 unless FV = 1 (R33). -/
  fieldsZero : s.parsed.fv = false → s.parsed.fa = 0#16 ∧ s.parsed.fb = 0#16
  /-- The two CRCs agree on OK, differ on CRC_MISMATCH, and are 0 otherwise (R34, R120). -/
  crcsMatch : s.parsed.pst = .ok → s.parsed.crcRx = s.parsed.crcCalc
  crcsDiffer : s.parsed.pst = .crcMismatch → s.parsed.crcRx ≠ s.parsed.crcCalc
  crcsZero : s.parsed.pst = .notDecoded ∨ s.parsed.pst = .tooShort → s.parsed.crcRx = 0#16 ∧ s.parsed.crcCalc = 0#16
  /-- Every frame handed to the sink has at most 256 bytes (R150). -/
  framesFit : ∀ f ∈ s.txLog, f.length ≤ 256

end Sys2Proof.Machine
end

