-- ==== Sys2Proof/Certificates/Slice0/Obligations.lean ====
section
/-! DEFINITION. The statements for the provers, each from numbered rules of spec/ or from the sections its entry in OBLIGATIONS.json cites. -/

open Sys2Proof Sys2Proof.Machine

/-! ## Encoding -/

/-- Every command is decoded from its one word, with every operand byte, and no other word decodes to it (R80 to R82,
R84). -/
def Obligations.CommandsAndTheirWordsAgree : Prop :=
  (∀ i : Instr, decodeWord (encodeWord i) = .ok i) ∧ ∀ (w : Word) (i : Instr), decodeWord w = .ok i → w = encodeWord i

/-- The decoder accepts exactly the well-formed words, and names what is wrong with every other; there are eleven
defined OP values (R81, R83). -/
def Obligations.DecoderSortsEveryWord : Prop :=
  (definedOps.length = 11 ∧ definedOps.Nodup) ∧
  ∀ w : Word,
    ((fieldsOfWord w).wellFormed = true → ∃ i, decodeWord w = .ok i) ∧
    (w.extractLsb' 0 8 ∈ definedOps → (fieldsOfWord w).wellFormed = false → decodeWord w = .reservedField) ∧
    (w.extractLsb' 0 8 ∉ definedOps → decodeWord w = .reservedOp ∧ (fieldsOfWord w).wellFormed = false)

/-- Words written out from R81, R82 and R93 decode to the commands they stand for. -/
def Obligations.ListedWordsDecode : Prop :=
  decodeWord 0x00000000#32 = .ok .nop ∧ decodeWord 0x00000302#32 = .ok (.crcFeed 0x03) ∧
  decodeWord 0x00030120#32 = .ok (.encode 0x01 0x03) ∧ decodeWord 0x02030121#32 = .ok (.encodeExc 0x01 0x03 0x02) ∧
  decodeWord 0x00000031#32 = .ok .doneDrop ∧ decodeWord 0x00000105#32 = .reservedOp ∧
  decodeWord 0x01000004#32 = .reservedField

/-- A reserved OP is refused with cause 1 and a non-zero must-be-zero field with cause 2: CMD_ERR and ERRCAUSE are
written and nothing else changes; the word of NOP does nothing and is the only word that leaves every state unchanged:
the one hint (R83). -/
def Obligations.ReservedWordsOnlyRecordTheirCause : Prop :=
  (∀ (s : State) (w : Word), w.extractLsb' 0 8 ∉ definedOps →
    command w s = .next { s with cmdErr := true, errCause := .reservedOp }) ∧
  (∀ (s : State) (w : Word), w.extractLsb' 0 8 ∈ definedOps → (fieldsOfWord w).wellFormed = false →
    command w s = .next { s with cmdErr := true, errCause := .reservedField }) ∧
  ErrCause.reservedOp.code = 1#4 ∧ ErrCause.reservedField.code = 2#4 ∧
  ∀ w : Word, (∀ s : State, command w s = .next s) ↔ w = 0x00000000#32

/-- R192's check order, with R193's effect: the first cause that applies, in the order 1, 2, 3, 4, is the one recorded,
nothing else changes, and a word with no cause leaves CMD_ERR and ERRCAUSE alone. -/
def Obligations.FirstApplicableCauseIsReported : Prop :=
  ∀ (s : State) (w : Word),
    let op := w.extractLsb' 0 8
    let short := op = 0x03#8 ∨ op = 0x04#8 ∨ op = 0x10#8
    let done := op = 0x30#8 ∨ op = 0x31#8
    let refusedWith := fun c : ErrCause => command w s = .next { s with cmdErr := true, errCause := c }
    (op ∉ definedOps → refusedWith .reservedOp) ∧
    (op ∈ definedOps → (fieldsOfWord w).wellFormed = false → refusedWith .reservedField) ∧
    ((fieldsOfWord w).wellFormed = true → short → 256 < s.plen.toNat → refusedWith .length) ∧
    ((fieldsOfWord w).wellFormed = true → op = 0x20#8 → 252 < s.elen.toNat → refusedWith .length) ∧
    ((fieldsOfWord w).wellFormed = true → done → s.runState ≠ .dispatch → refusedWith .state) ∧
    ((fieldsOfWord w).wellFormed = true → (short → s.plen.toNat ≤ 256) → (op = 0x20#8 → s.elen.toNat ≤ 252) →
      (done → s.runState = .dispatch) →
      ∃ t, command w s = .next t ∧ t.cmdErr = s.cmdErr ∧ t.errCause = s.errCause)

/-! ## The CRC unit -/

/-- R100's iteration and R101's fold, written out, with the spec's worked values. -/
def Obligations.CrcFunctionIsTheSpecs : Prop :=
  (∀ (acc : Half) (b : Byte),
    crcStep acc b =
      Nat.iterate (fun x : Half => if x.getLsbD 0 = true then (x >>> 1) ^^^ 0xA001#16 else x >>> 1) 8
        (acc ^^^ b.setWidth 16)) ∧
  (∀ bs : List Byte, crc16 bs = bs.foldl crcStep 0xFFFF#16) ∧ crc16 [] = 0xFFFF#16 ∧
  crc16 [0x01, 0x03, 0x00, 0x00, 0x00, 0x02] = 0x0BC4#16 ∧
  withCrc [0x01, 0x03, 0x00, 0x00, 0x00, 0x02] = [0x01, 0x03, 0x00, 0x00, 0x00, 0x02, 0xC4, 0x0B]

/-- The byte-wise CRC of R100 and R101 is the bit-serial register's, bits taken low first. -/
def Obligations.CrcEqualsBitSerialRegister : Prop := ∀ bs : List Byte, crc16 bs = serialCrc bs

/-- R102 (a): the CRC of any byte sequence followed by its own CRC, low byte first, is 0x0000. -/
def Obligations.CrcOverFrameWithItsCrcIsZero : Prop :=
  ∀ d : List Byte, crc16 (d ++ [loByte (crc16 d), hiByte (crc16 d)]) = 0x0000#16

/-- R102 (b): inverting any one bit of a byte sequence with its CRC makes the check fail. -/
def Obligations.EverySingleBitErrorIsDetected : Prop :=
  ∀ (d : List Byte) (k j : Nat), k < d.length + 2 → j < 8 →
    let f := flipBit (d ++ [loByte (crc16 d), hiByte (crc16 d)]) k j
    receivedCrc f ≠ crc16 (coveredBytes f)

/-- R103: CRC_INIT. -/
def Obligations.CrcInitSetsInitialValue : Prop :=
  IsCmd0Word 0x00000001#32 .crcInit ∧ ∀ s : State, exec .crcInit s = .next { s with crcAcc := 0xFFFF#16 }

/-- R104: CRC_FEED, its word, its refused fields, and what feeding a sequence leaves. -/
def Obligations.CrcFeedAddsOneByte : Prop :=
  (∀ (s : State) (w : Word), w.extractLsb' 0 8 = 0x02#8 → w.extractLsb' 16 16 = 0#16 →
    command w s = exec (.crcFeed (w.extractLsb' 8 8)) s) ∧
  (∀ (s : State) (w : Word), w.extractLsb' 0 8 = 0x02#8 → w.extractLsb' 16 16 ≠ 0#16 →
    command w s = .next { s with cmdErr := true, errCause := .reservedField }) ∧
  (∀ (s : State) (a : Byte), exec (.crcFeed a) s = .next { s with crcAcc := crcStep s.crcAcc a }) ∧
  crcStep 0xFFFF#16 0x01#8 = 0x807E#16 ∧
  (∀ (s : State) (d : List Byte),
    runCommands (.crcInit :: d.map .crcFeed) s = .next { s with crcAcc := crc16 d } ∧
    runCommands (.crcInit :: (d.map .crcFeed ++ [.crcFeed (loByte (crc16 d)), .crcFeed (hiByte (crc16 d))])) s =
      .next { s with crcAcc := 0x0000#16 })

/-- R105: CRC_COMPUTE. -/
def Obligations.CrcComputeReadsParseBuffer : Prop :=
  IsCmd0Word 0x00000003#32 .crcCompute ∧
  (∀ s : State, 256 < s.plen.toNat → exec .crcCompute s = .next { s with cmdErr := true, errCause := .length }) ∧
  (∀ s : State, s.plen.toNat ≤ 256 →
    exec .crcCompute s =
      .next { s with crcAcc := crc16 ((List.range s.plen.toNat).map fun k => Memory.read s.mem (0x100 + k)) }) ∧
  ∀ s : State, s.plen = 0#9 → exec .crcCompute s = .next { s with crcAcc := 0xFFFF#16 }

/-- R106: CRC_VERIFY. -/
def Obligations.CrcVerifyChecksParseBuffer : Prop :=
  IsCmd0Word 0x00000004#32 .crcVerify ∧
  (∀ s : State, 256 < s.plen.toNat → exec .crcVerify s = .next { s with cmdErr := true, errCause := .length }) ∧
  (∀ s : State, s.plen.toNat < 2 → exec .crcVerify s = .next { s with vok := false }) ∧
  (∀ s : State, 2 ≤ s.plen.toNat → s.plen.toNat ≤ 256 →
    let n := s.plen.toNat
    let c := crc16 ((List.range (n - 2)).map fun k => Memory.read s.mem (0x100 + k))
    let r := u16 (Memory.read s.mem (0x100 + (n - 1))) (Memory.read s.mem (0x100 + (n - 2)))
    exec .crcVerify s = .next { s with crcAcc := c, vok := decide (c = r) }) ∧
  ∀ s : State, s.plen = 2#9 →
    exec .crcVerify s =
      .next { s with
        crcAcc := 0xFFFF#16
        vok := decide (Memory.read s.mem 0x100 = 0xFF#8 ∧ Memory.read s.mem 0x101 = 0xFF#8) }

/-! ## The frame codec -/

/-- R120 and R121: what DECODE writes, case by case, and that it writes nothing else. -/
def Obligations.DecodeWritesParsedFieldsOnly : Prop :=
  IsCmd0Word 0x00000010#32 .decode ∧
  (∀ s : State, 256 < s.plen.toNat → exec .decode s = .next { s with cmdErr := true, errCause := .length }) ∧
  ∀ s : State, s.plen.toNat ≤ 256 →
    let n := s.plen.toNat
    let raw := fun k => Memory.read s.mem (0x100 + k)
    let rx := u16 (raw (n - 1)) (raw (n - 2))
    let own := crc16 ((List.range (n - 2)).map raw)
    let known := raw 1 = 0x01#8 ∨ raw 1 = 0x03#8 ∨ raw 1 = 0x05#8
    let gives := fun p : Parsed => exec .decode s = .next { s with parsed := p }
    (n < 8 → gives ⟨.tooShort, false, 0, 0, 0, 0, 0, 0, 0⟩) ∧
    (8 ≤ n → rx ≠ own → gives ⟨.crcMismatch, false, 0, 0, 0, 0, 0, rx, own⟩) ∧
    (8 ≤ n → rx = own → known →
      gives ⟨.ok, true, raw 0, raw 1, BitVec.ofNat 9 (n - 4), u16 (raw 2) (raw 3), u16 (raw 4) (raw 5), rx, own⟩) ∧
    (8 ≤ n → rx = own → ¬known → gives ⟨.ok, false, raw 0, raw 1, BitVec.ofNat 9 (n - 4), 0, 0, rx, own⟩)

/-- R122: ENCODE's frame in TBUF, TLEN, and that no other byte and nothing else changes. -/
def Obligations.EncodeBuildsResponseInTbuf : Prop :=
  (∀ (s : State) (w : Word), w.extractLsb' 0 8 = 0x20#8 → w.extractLsb' 24 8 = 0#8 →
    command w s = exec (.encode (w.extractLsb' 8 8) (w.extractLsb' 16 8)) s) ∧
  (∀ (s : State) (w : Word), w.extractLsb' 0 8 = 0x20#8 → w.extractLsb' 24 8 ≠ 0#8 →
    command w s = .next { s with cmdErr := true, errCause := .reservedField }) ∧
  (∀ (s : State) (a b : Byte), 252 < s.elen.toNat →
    exec (.encode a b) s = .next { s with cmdErr := true, errCause := .length }) ∧
  ∀ (s : State) (a b : Byte), s.mem.wf = true → s.elen.toNat ≤ 252 →
    let n := s.elen.toNat
    let body := a :: b :: (List.range n).map fun k => Memory.read s.mem (0x200 + k)
    let f := body ++ [loByte (crc16 body), hiByte (crc16 body)]
    ∃ m : Memory, exec (.encode a b) s = .next { s with mem := m, tlen := BitVec.ofNat 9 (n + 4) } ∧
      (∀ k < n + 4, Memory.read m (0x300 + k) = f.getD k 0#8) ∧
      ∀ x, x < 0x300 ∨ 0x300 + (n + 4) ≤ x → Memory.read m x = Memory.read s.mem x

/-- R123: ENCODE_EXC's five bytes in TBUF, TLEN = 5, and that no other byte and nothing else changes. -/
def Obligations.EncodeExcBuildsExceptionInTbuf : Prop :=
  (∀ (s : State) (w : Word), w.extractLsb' 0 8 = 0x21#8 →
    command w s = exec (.encodeExc (w.extractLsb' 8 8) (w.extractLsb' 16 8) (w.extractLsb' 24 8)) s) ∧
  ∀ (s : State) (a b c : Byte), s.mem.wf = true →
    let k := crc16 [a, b ||| 0x80#8, c]
    ∃ m : Memory, exec (.encodeExc a b c) s = .next { s with mem := m, tlen := 5#9 } ∧
      Memory.read m 0x300 = a ∧ Memory.read m 0x301 = b ||| 0x80#8 ∧ Memory.read m 0x302 = c ∧
      Memory.read m 0x303 = loByte k ∧ Memory.read m 0x304 = hiByte k ∧
      ∀ x, x < 0x300 ∨ 0x305 ≤ x → Memory.read m x = Memory.read s.mem x

/-- A frame ENCODE built, put in the parse buffer, decodes OK to the slave id, function code and payload it was built of,
and passes CRC_VERIFY (R102 (a), R120, R122). -/
def Obligations.EncodedFrameDecodesToItsParts : Prop :=
  ∀ (s t u : State) (a b : Byte), s.mem.wf = true → 4 ≤ s.elen.toNat → s.elen.toNat ≤ 252 →
    exec (.encode a b) s = .next t → u.plen = t.tlen →
    (∀ k < t.tlen.toNat, Memory.read u.mem (0x100 + k) = Memory.read t.mem (0x300 + k)) →
    (∃ p : Parsed, exec .decode u = .next { u with parsed := p } ∧ p.pst = .ok ∧ p.slave = a ∧ p.fc = b ∧
      p.payLen = s.elen ∧ ∀ k < s.elen.toNat, Memory.read u.mem (0x102 + k) = Memory.read s.mem (0x200 + k)) ∧
    ∃ c : Half, exec .crcVerify u = .next { u with crcAcc := c, vok := true }

/-- A good 8-byte frame with any one bit inverted is dropped at capture: no dispatch, nothing sent, FERR_CNT counts it,
the decode says CRC_MISMATCH (R102 (b), R155, R195).
Inputs listed in State and output fields are the model's choice (log entries 1, 2, 5). -/
def Obligations.FrameWithOneWrongBitIsDropped : Prop :=
  ∀ (s : State) (d rest : List Byte) (k j : Nat), d.length = 6 → k < 8 → j < 8 → s.runState = .polling →
    s.mem.wf = true → s.inputs = [] →
    s.rxq = flipBit (d ++ [loByte (crc16 d), hiByte (crc16 d)]) k j ++ rest →
    ∃ t, step s = .next t ∧ t.runState = .polling ∧ t.parsed.pst = .crcMismatch ∧ t.ferrCnt = s.ferrCnt + 1#16 ∧
      t.rxq = rest ∧ t.txLog = s.txLog ∧ t.txFrame = none ∧ t.irq = false

/-! ## The loop's commands -/

/-- R160: DONE_TX, and the later phases of its cycle. -/
def Obligations.DoneTxSendsTransmitBuffer : Prop :=
  IsCmd0Word 0x00000030#32 .doneTx ∧
  (∀ s : State, s.runState ≠ .dispatch → exec .doneTx s = .next { s with cmdErr := true, errCause := .state }) ∧
  ∀ s : State, s.runState = .dispatch →
    let f := (List.range s.tlen.toNat).map fun k => Memory.read s.mem (0x300 + k)
    let t := { s with
      txFrame := some f
      txLog := s.txLog ++ [f]
      runState := if s.run = true then .polling else .stopped }
    exec .doneTx s = .next t ∧
    (∀ (rx : Option Byte) (tick : Bool),
      cycle { commandInput 0x00000030#32 with rx := rx, tick := tick } s =
        .next (loopPhase (tickPhase tick (linePhase rx { t with answer := .wrote })))) ∧
    (8 ≤ s.rxq.length → s.run = true →
      ∃ u, cycle (commandInput 0x00000030#32) s = .next u ∧ u.rxq = s.rxq.drop 8 ∧ u.plen = 8#9) ∧
    ∀ u, s.rxq.length < 8 → cycle (commandInput 0x00000030#32) s = .next u → u.irq = false

/-- R161: DONE_DROP, and the later phases of its cycle. -/
def Obligations.DoneDropEndsDispatchSilently : Prop :=
  IsCmd0Word 0x00000031#32 .doneDrop ∧
  (∀ s : State, s.runState ≠ .dispatch → exec .doneDrop s = .next { s with cmdErr := true, errCause := .state }) ∧
  ∀ s : State, s.runState = .dispatch →
    let t := { s with runState := if s.run = true then RunState.polling else RunState.stopped }
    exec .doneDrop s = .next t ∧
    (∀ (rx : Option Byte) (tick : Bool),
      cycle { commandInput 0x00000031#32 with rx := rx, tick := tick } s =
        .next (loopPhase (tickPhase tick (linePhase rx { t with answer := .wrote })))) ∧
    (8 ≤ s.rxq.length → s.run = true →
      ∃ u, cycle (commandInput 0x00000031#32) s = .next u ∧ u.rxq = s.rxq.drop 8 ∧ u.plen = 8#9 ∧ u.txLog = s.txLog) ∧
    ∀ u, s.rxq.length < 8 → cycle (commandInput 0x00000031#32) s = .next u → u.irq = false

/-- R162: RX_FLUSH, and that a byte of the same cycle is pushed after it and survives, the loop's own action apart. -/
def Obligations.RxFlushEmptiesFifo : Prop :=
  IsCmd0Word 0x00000040#32 .rxFlush ∧ (∀ s : State, exec .rxFlush s = .next { s with rxq := [] }) ∧
  (∀ (s : State) (b : Byte),
    cycle { commandInput 0x00000040#32 with rx := some b } s = .next (loopPhase { s with rxq := [b], answer := .wrote })) ∧
  ∀ (s : State) (b : Byte), (s.runState = .polling → s.elapsed.toNat ≤ s.idleTo.toNat) →
    cycle { commandInput 0x00000040#32 with rx := some b } s = .next { s with rxq := [b], answer := .wrote }

/-- R163: NOP; the cycle's other phases run as usual. -/
def Obligations.NopChangesNothing : Prop :=
  IsCmd0Word 0x00000000#32 .nop ∧ (∀ s : State, exec .nop s = .next s) ∧
  ∀ (s : State) (rx : Option Byte) (tick : Bool),
    cycle { commandInput 0x00000000#32 with rx := rx, tick := tick } s =
      .next (loopPhase (tickPhase tick (linePhase rx { s with answer := .wrote })))

/-! ## The cycle -/

/-- A step runs the command whose word the cycle's input writes to CMD: exec of it, then the line, tick and loop phases
(R80, R151, R152).
Inputs listed in State and output fields are the model's choice (log entries 1, 2, 5). -/
def Obligations.StepRunsTheWrittenCommand : Prop :=
  ∀ (s : State) (w : Word) (i : Instr) (rx : Option Byte) (tick : Bool) (rest : List CycleInput),
    s.inputs = { rst := false, host := some { off := 0x008#10, op := .write4 w }, rx := rx, tick := tick } :: rest →
    decodeWord w = .ok i →
    ∃ t, exec i { s with inputs := rest, answer := .silent, txFrame := none } = .next t ∧
      step s = .next (loopPhase (tickPhase tick (linePhase rx { t with answer := .wrote })))

/-- R151's order: host access, line byte, tick, loop, each seeing the ones before it; nothing but reset when `rst` = 1.
Inputs listed in State and output fields are the model's choice (log entries 1, 2, 5). -/
def Obligations.CyclePhasesRunInOrder : Prop :=
  (∀ (s : State) (i : CycleInput) (rest : List CycleInput), s.inputs = i :: rest →
    step s = cycle i { s with inputs := rest, answer := .silent, txFrame := none }) ∧
  (∀ (i : CycleInput) (s : State), i.rst = true →
    cycle i s = .next { State.reset with txLog := s.txLog, inputs := s.inputs }) ∧
  (∀ (i : CycleInput) (s : State), i.rst = false → i.host = none →
    cycle i s = .next (loopPhase (tickPhase i.tick (linePhase i.rx s)))) ∧
  ∀ (i : CycleInput) (s t : State) (a : HostAccess), i.rst = false → i.host = some a → hostAccess a s = .next t →
    cycle i s = .next (loopPhase (tickPhase i.tick (linePhase i.rx t)))

/-- R153: a received byte in every RUNSTATE. -/
def Obligations.ReceivedByteIsQueuedOrLost : Prop :=
  ∀ (s : State) (b : Byte),
    (s.rxq.length < 256 → linePhase (some b) s = { s with rxq := s.rxq ++ [b] }) ∧
    (256 ≤ s.rxq.length → linePhase (some b) s = { s with rxOvf := true })

/-- R154: a tick, in each RUNSTATE, and that a byte's arrival does not reset ELAPSED. -/
def Obligations.TickCountsWhileTheLoopRuns : Prop :=
  ∀ s : State,
    (s.runState ≠ .stopped →
      tickPhase true s = { s with elapsed := BitVec.ofNat 32 (min (s.elapsed.toNat + 1) 0xFFFFFFFF) }) ∧
    (s.runState = .stopped → tickPhase true s = s) ∧ tickPhase false s = s ∧
    ∀ rx : Option Byte, (linePhase rx s).elapsed = s.elapsed

/-- R155: a capture: what the 8 oldest bytes become, where the loop goes, and that no other byte and nothing else
changes. -/
def Obligations.CaptureTakesTheEightOldestBytes : Prop :=
  ∀ s : State, s.mem.wf = true → s.runState = .polling → 8 ≤ s.rxq.length →
    ∃ (m : Memory) (p : Parsed),
      (∀ k < 8, Memory.read m (0x100 + k) = s.rxq.getD k 0#8) ∧
      (∀ x, x < 0x100 ∨ 0x108 ≤ x → Memory.read m x = Memory.read s.mem x) ∧
      exec .decode { s with mem := m, plen := 8#9 } = .next { s with mem := m, plen := 8#9, parsed := p } ∧
      (p.pst = .ok ∨ p.pst = .crcMismatch) ∧
      loopPhase s =
        { s with
          rxq := s.rxq.drop 8
          mem := m
          plen := 8#9
          elapsed := 0#32
          parsed := p
          runState := if p.pst = .ok then .dispatch else .polling
          ferrCnt := if p.pst = .ok then s.ferrCnt else BitVec.ofNat 16 ((s.ferrCnt.toNat + 1) % 2 ^ 16) }

/-- R156: the watchdog flush. -/
def Obligations.WatchdogFlushDiscardsPartialFrame : Prop :=
  ∀ s : State, s.runState = .polling → s.rxq.length < 8 → s.idleTo.toNat < s.elapsed.toNat →
    loopPhase s =
      { s with
        rxq := []
        elapsed := 0#32
        discCnt := if s.rxq.length > 0 then BitVec.ofNat 16 ((s.discCnt.toNat + 1) % 2 ^ 16) else s.discCnt }

/-- R157 with R158: at most one action a cycle, capture before flush, and none outside POLLING. -/
def Obligations.LoopActsAtMostOncePerCycle : Prop :=
  ∀ s : State,
    (s.runState = .polling → 8 ≤ s.rxq.length → loopPhase s = capture s) ∧
    (s.runState = .polling → s.rxq.length < 8 → s.idleTo.toNat < s.elapsed.toNat → loopPhase s = flush s) ∧
    (s.runState = .polling → s.rxq.length < 8 → s.elapsed.toNat ≤ s.idleTo.toNat → loopPhase s = s) ∧
    (s.runState ≠ .polling → loopPhase s = s)

/-- R159: a write of CTRL. -/
def Obligations.CtrlWriteStartsAndStopsTheLoop : Prop :=
  ∀ (s : State) (v : Word),
    let t := { s with run := v.getLsbD 0, ie := v.getLsbD 1, answer := .wrote }
    let written := hostAccess { off := 0x000#10, op := .write4 v } s
    (s.runState = .stopped → v.getLsbD 0 = true → written = .next { t with runState := .polling, elapsed := 0#32 }) ∧
    (s.runState = .polling → v.getLsbD 0 = false → written = .next { t with runState := .stopped }) ∧
    (s.runState = .stopped → v.getLsbD 0 = false → written = .next t) ∧
    (s.runState = .polling → v.getLsbD 0 = true → written = .next t) ∧
    (s.runState = .dispatch → written = .next t)

/-- R158: DISPATCH holds against everything but DONE_TX, DONE_DROP and reset: no capture, no flush, the FIFO and the idle
timer go on. -/
def Obligations.DispatchHoldsUntilDone : Prop :=
  ∀ s t : State, s.runState = .dispatch → s.nextInput.rst = false → cycleCommand s.nextInput ≠ some .doneTx →
    cycleCommand s.nextInput ≠ some .doneDrop → step s = .next t →
    t.runState = .dispatch ∧
    ((∀ v, ¬writesReg s.nextInput .diag v) → t.ferrCnt = s.ferrCnt ∧ t.discCnt = s.discCnt) ∧
    t.elapsed = (if s.nextInput.tick = true then BitVec.ofNat 32 (min (s.elapsed.toNat + 1) 0xFFFFFFFF) else s.elapsed) ∧
    t.rxq =
      (let q := if cycleCommand s.nextInput = some .rxFlush then [] else s.rxq
       match s.nextInput.rx with
       | none => q
       | some b => if q.length < 256 then q ++ [b] else q)

/-- R226: a dispatch longer than IDLE_TO, ended by DONE_TX or DONE_DROP, is followed by a flush in the same cycle when
fewer than 8 bytes wait. -/
def Obligations.LongDispatchIsFollowedByFlush : Prop :=
  ∀ (s : State) (w : Word), w = 0x00000030#32 ∨ w = 0x00000031#32 → s.runState = .dispatch → s.run = true →
    s.rxq.length < 8 → s.idleTo.toNat < s.elapsed.toNat →
    ∃ t, cycle (commandInput w) s = .next t ∧ t.runState = .polling ∧ t.rxq = [] ∧ t.elapsed = 0#32 ∧
      t.discCnt = (if s.rxq = [] then s.discCnt else s.discCnt + 1#16) ∧ t.ferrCnt = s.ferrCnt ∧ t.plen = s.plen ∧
      t.parsed = s.parsed ∧ t.mem = s.mem ∧ t.rxOvf = s.rxOvf ∧ t.cmdErr = s.cmdErr

/-! ## Reset and the host port -/

/-- R220 and R221: a reset cycle, in any state, leaves every part of the tuple at its reset value and nothing else happens;
power-on is the same reset. -/
def Obligations.ResetSetsEveryPart : Prop :=
  let atReset := fun t : State =>
    t.runState = .stopped ∧ t.run = false ∧ t.ie = false ∧ t.vok = false ∧ t.cmdErr = false ∧ t.rxOvf = false ∧
    t.errCause = .noError ∧ t.crcAcc = 0xFFFF#16 ∧ t.plen = 0#9 ∧ t.elen = 0#9 ∧ t.tlen = 0#9 ∧
    t.parsed = ⟨.notDecoded, false, 0, 0, 0, 0, 0, 0, 0⟩ ∧ t.idleTo = 0x00002710#32 ∧ t.elapsed = 0#32 ∧
    t.ferrCnt = 0#16 ∧ t.discCnt = 0#16 ∧ (∀ x, Memory.read t.mem x = 0#8) ∧ t.rxq = [] ∧ t.irq = false
  atReset State.reset ∧
  ∀ (s : State) (i : CycleInput) (rest : List CycleInput), s.inputs = i :: rest → i.rst = true →
    ∃ t, step s = .next t ∧ atReset t ∧ t.answer = .silent ∧ t.txFrame = none ∧ t.txLog = s.txLog

/-- The value every read returns after reset (R221; vectors V5.1 and V5.2). -/
def Obligations.ReadsAfterReset : Prop :=
  ∀ off : Offset,
    readWordAt State.reset off =
      (if off = 0x010#10 then 0x0000FFFF#32 else if off = 0x034#10 then 0x00002710#32 else 0#32) ∧
    readByteAt State.reset off = 0x00#8

/-- R62 and R194: the accepted accesses, and that a step stops exactly on a host access that is not one of them, with
the bus error; every other step goes on. -/
def Obligations.OnlyUnacceptedAccessesFault : Prop :=
  (∀ (off : Offset) (n : Nat),
    accepted off n = true ↔ off.toNat < 0x100 ∧ n = 4 ∧ off.toNat % 4 = 0 ∨ 0x100 ≤ off.toNat ∧ off.toNat < 0x400 ∧ n = 1) ∧
  ∀ s : State,
    (step s = .fault .busError ↔
      s.nextInput.rst = false ∧ ∃ a, s.nextInput.host = some a ∧ accepted a.off (accessBytes (opSize a.op)) = false) ∧
    (step s ≠ .fault .busError → ∃ t, step s = .next t)

/-- R63: an accepted read answers from the state at the start of the cycle, reserved locations and CMD read 0, and the
cycle is otherwise the one without the read.
Inputs listed in State and output fields are the model's choice (log entries 1, 2, 5). -/
def Obligations.ReadsAnswerAndChangeNothing : Prop :=
  (∀ (i : CycleInput) (s : State) (off : Offset), i.rst = false → off.toNat < 0x100 → off.toNat % 4 = 0 →
    i.host = some { off := off, op := .read .four } →
    ∃ t, cycle { i with host := none } s = .next t ∧ cycle i s = .next { t with answer := .word (readWordAt s off) }) ∧
  (∀ (i : CycleInput) (s : State) (off : Offset), i.rst = false → 0x100 ≤ off.toNat →
    i.host = some { off := off, op := .read .one } →
    ∃ t, cycle { i with host := none } s = .next t ∧ cycle i s = .next { t with answer := .byte (readByteAt s off) }) ∧
  (∀ (s : State) (off : Offset), 0x040 ≤ off.toNat → readWordAt s off = 0#32) ∧
  (∀ s : State, readWordAt s 0x008#10 = 0#32) ∧
  (∀ (s : State) (off : Offset), 0x2FC ≤ off.toNat → off.toNat < 0x300 → readByteAt s off = 0#8) ∧
  ∀ (s : State) (off : Offset), 0x100 ≤ off.toNat → off.toNat < 0x2FC ∨ 0x300 ≤ off.toNat →
    readByteAt s off = Memory.read s.mem off.toNat

/-- The fields of all sixteen registers as read, at their bit positions, reserved bits 0; CMD reads 0 (R24 to R40). -/
def Obligations.RegistersReadTheirFields : Prop :=
  ∀ s : State,
    (readWordAt s 0x000#10).extractLsb' 0 1 = BitVec.ofBool s.run ∧
    (readWordAt s 0x000#10).extractLsb' 1 1 = BitVec.ofBool s.ie ∧ (readWordAt s 0x000#10).extractLsb' 2 30 = 0#30 ∧
    (readWordAt s 0x004#10).extractLsb' 0 2 =
      (if s.runState = .stopped then 0#2 else if s.runState = .dispatch then 3#2 else if s.rxq = [] then 1#2 else 2#2) ∧
    (readWordAt s 0x004#10).extractLsb' 2 1 = BitVec.ofBool (s.ie && decide (s.runState = .dispatch)) ∧
    (readWordAt s 0x004#10).extractLsb' 3 1 = BitVec.ofBool s.vok ∧ (readWordAt s 0x004#10).extractLsb' 4 4 = 0#4 ∧
    (readWordAt s 0x004#10).extractLsb' 8 1 = BitVec.ofBool s.cmdErr ∧
    (readWordAt s 0x004#10).extractLsb' 9 1 = BitVec.ofBool s.rxOvf ∧ (readWordAt s 0x004#10).extractLsb' 10 22 = 0#22 ∧
    readWordAt s 0x008#10 = 0#32 ∧
    (readWordAt s 0x00C#10).extractLsb' 0 4 = s.errCause.code ∧ (readWordAt s 0x00C#10).extractLsb' 4 28 = 0#28 ∧
    (readWordAt s 0x010#10).extractLsb' 0 16 = s.crcAcc ∧ (readWordAt s 0x010#10).extractLsb' 16 16 = 0#16 ∧
    readWordAt s 0x014#10 = s.plen.setWidth 32 ∧
    (readWordAt s 0x018#10).extractLsb' 0 2 = s.parsed.pst.code ∧ (readWordAt s 0x018#10).extractLsb' 2 2 = 0#2 ∧
    (readWordAt s 0x018#10).extractLsb' 4 1 = BitVec.ofBool s.parsed.fv ∧
    (readWordAt s 0x018#10).extractLsb' 5 27 = 0#27 ∧
    (readWordAt s 0x01C#10).extractLsb' 0 8 = s.parsed.slave ∧ (readWordAt s 0x01C#10).extractLsb' 8 8 = s.parsed.fc ∧
    (readWordAt s 0x01C#10).extractLsb' 16 9 = s.parsed.payLen ∧ (readWordAt s 0x01C#10).extractLsb' 25 7 = 0#7 ∧
    (readWordAt s 0x020#10).extractLsb' 0 16 = s.parsed.fa ∧ (readWordAt s 0x020#10).extractLsb' 16 16 = s.parsed.fb ∧
    (readWordAt s 0x024#10).extractLsb' 0 16 = s.parsed.crcRx ∧
    (readWordAt s 0x024#10).extractLsb' 16 16 = s.parsed.crcCalc ∧
    readWordAt s 0x028#10 = s.elen.setWidth 32 ∧ readWordAt s 0x02C#10 = s.tlen.setWidth 32 ∧
    (s.rxq.length ≤ 256 → (readWordAt s 0x030#10).toNat = s.rxq.length) ∧ readWordAt s 0x034#10 = s.idleTo ∧
    readWordAt s 0x038#10 = s.elapsed ∧ (readWordAt s 0x03C#10).extractLsb' 0 16 = s.ferrCnt ∧
    (readWordAt s 0x03C#10).extractLsb' 16 16 = s.discCnt

/-- R24 and R26: STATUS as read, its write-1-to-clear bits, and that an overflow of the same cycle wins over its clear. -/
def Obligations.StatusReadsAndClears : Prop :=
  (∀ s : State,
    let w := readWordAt s 0x004#10
    (s.runState = .stopped → w.extractLsb' 0 2 = 0#2) ∧
    (s.runState = .polling → s.rxq.length = 0 → w.extractLsb' 0 2 = 1#2) ∧
    (s.runState = .polling → 1 ≤ s.rxq.length → w.extractLsb' 0 2 = 2#2) ∧
    (s.runState = .dispatch → w.extractLsb' 0 2 = 3#2) ∧
    (w.getLsbD 2 = true ↔ s.ie = true ∧ s.runState = .dispatch) ∧ w.getLsbD 3 = s.vok ∧ w.extractLsb' 4 4 = 0#4 ∧
    w.getLsbD 8 = s.cmdErr ∧ w.getLsbD 9 = s.rxOvf ∧ w.extractLsb' 10 22 = 0#22) ∧
  readWordAt State.reset 0x004#10 = 0#32 ∧
  (∀ (s : State) (v : Word),
    hostAccess { off := 0x004#10, op := .write4 v } s =
      .next { s with
        cmdErr := if v.getLsbD 8 = true then false else s.cmdErr
        errCause := if v.getLsbD 8 = true then .noError else s.errCause
        rxOvf := if v.getLsbD 9 = true then false else s.rxOvf
        answer := .wrote }) ∧
  ∀ (s : State) (v : Word) (b : Byte) (tick : Bool), 256 ≤ s.rxq.length →
    ∃ t, cycle ⟨false, some { off := 0x004#10, op := .write4 v }, some b, tick⟩ s = .next t ∧ t.rxOvf = true

/-- What accepted writes do beside CTRL's and STATUS's: stored values, DIAG's clearing, the command at CMD, and the
writes that are ignored (R30, R35, R38, R40, R41, R64). -/
def Obligations.HostWritesTakeTheirEffect : Prop :=
  (∀ (s : State) (v : Word),
    hostAccess { off := 0x014#10, op := .write4 v } s = .next { s with plen := v.extractLsb' 0 9, answer := .wrote } ∧
    hostAccess { off := 0x028#10, op := .write4 v } s = .next { s with elen := v.extractLsb' 0 9, answer := .wrote } ∧
    hostAccess { off := 0x034#10, op := .write4 v } s = .next { s with idleTo := v, answer := .wrote } ∧
    hostAccess { off := 0x03C#10, op := .write4 v } s =
      .next { s with ferrCnt := 0#16, discCnt := 0#16, answer := .wrote } ∧
    ∀ t, command v s = .next t → hostAccess { off := 0x008#10, op := .write4 v } s = .next { t with answer := .wrote }) ∧
  (∀ (s : State) (v : Word) (off : Offset),
    off ∈ [0x00C#10, 0x010#10, 0x018#10, 0x01C#10, 0x020#10, 0x024#10, 0x02C#10, 0x030#10, 0x038#10] ∨
      0x040 ≤ off.toNat ∧ off.toNat < 0x100 ∧ off.toNat % 4 = 0 →
    hostAccess { off := off, op := .write4 v } s = .next { s with answer := .wrote }) ∧
  (∀ (s : State) (b : Byte) (off : Offset), 0x2FC ≤ off.toNat →
    hostAccess { off := off, op := .write1 b } s = .next { s with answer := .wrote }) ∧
  ∀ (s : State) (b : Byte) (off : Offset), s.mem.wf = true → 0x100 ≤ off.toNat → off.toNat < 0x2FC →
    ∃ m : Memory, hostAccess { off := off, op := .write1 b } s = .next { s with mem := m, answer := .wrote } ∧
      Memory.read m off.toNat = b ∧ ∀ x, x ≠ off.toNat → Memory.read m x = Memory.read s.mem x

/-- A write of one value twice to CTRL, PLEN, ELEN, IDLE_TO or a buffer byte has the effect of writing it once (R64). -/
def Obligations.RepeatedWriteIsOneWrite : Prop :=
  ∀ (s t u : State) (a : HostAccess), s.mem.wf = true →
    (a.off ∈ [0x000#10, 0x014#10, 0x028#10, 0x034#10] ∧ (∃ v, a.op = .write4 v)) ∨
      (0x100 ≤ a.off.toNat ∧ ∃ b, a.op = .write1 b) →
    hostAccess a s = .next t → hostAccess a t = .next u → u = t

/-- An access outside the window at BASE is none of the engine's, and one inside has its offset from BASE. It speaks of
`portAccess`, the model's choice for R60's window: BASE without a value, and host addresses as natural numbers, so that the
window never wraps (log entry 6). -/
def Obligations.WindowIsDecodedFromBase : Prop :=
  ∀ (addr : Nat) (op : BusOp),
    (portAccess addr op = none ↔ addr < Config.base ∨ Config.base + 1024 ≤ addr) ∧
    ∀ a, portAccess addr op = some a → Config.base + a.off.toNat = addr ∧ a.op = op

/-! ## Rules about the whole machine -/

/-- The invariant holds after reset. Its clause about emitted frames holds there because no frame has been emitted yet, the
model's choice of an empty record at power-on (log entry 2). -/
def Obligations.ResetStateHasTheInvariant : Prop := State.reset.Inv

/-- Every cycle, whatever its inputs, keeps the invariant. -/
def Obligations.EveryCycleKeepsTheInvariant : Prop := ∀ s t : State, s.Inv → step s = .next t → t.Inv

/-- Only the four CRC commands write CRC_ACC, reset apart; decode, encode and capture do not (R29, R224). -/
def Obligations.OnlyCrcCommandsWriteCrcAcc : Prop :=
  ∀ s t : State, step s = .next t → s.nextInput.rst = false → t.crcAcc ≠ s.crcAcc →
    cycleCommand s.nextInput = some .crcInit ∨ (∃ a, cycleCommand s.nextInput = some (.crcFeed a)) ∨
    cycleCommand s.nextInput = some .crcCompute ∨ cycleCommand s.nextInput = some .crcVerify

/-- What changes ELAPSED, phase by phase: a start of the loop, a tick, a capture and a flush, and nothing else (R39). -/
def Obligations.OnlyTicksRestartsAndTheLoopMoveElapsed : Prop :=
  (∀ (a : HostAccess) (s t : State), hostAccess a s = .next t → t.elapsed ≠ s.elapsed →
    s.runState = .stopped ∧ t.runState = .polling ∧ t.elapsed = 0#32 ∧
      ∃ v, a = { off := 0x000#10, op := .write4 v } ∧ v.getLsbD 0 = true) ∧
  (∀ (rx : Option Byte) (s : State), (linePhase rx s).elapsed = s.elapsed) ∧
  (∀ (tick : Bool) (s : State), (tickPhase tick s).elapsed ≠ s.elapsed → tick = true ∧ s.runState ≠ .stopped) ∧
  ∀ s : State, (loopPhase s).elapsed ≠ s.elapsed →
    s.runState = .polling ∧ (loopPhase s).elapsed = 0#32 ∧ (8 ≤ s.rxq.length ∨ s.idleTo.toNat < s.elapsed.toNat)

/-- TBUF and TLEN change only by ENCODE and ENCODE_EXC, reset apart: not by host writes, sending, or a capture (R36,
R44, R225). -/
def Obligations.OnlyEncodersWriteTransmitBuffer : Prop :=
  ∀ s t : State, step s = .next t → s.nextInput.rst = false →
    (∀ a b, cycleCommand s.nextInput ≠ some (.encode a b)) → (∀ a b c, cycleCommand s.nextInput ≠ some (.encodeExc a b c)) →
    t.tlen = s.tlen ∧ ∀ k < 256, Memory.read t.mem (0x300 + k) = Memory.read s.mem (0x300 + k)

/-- EBUF and ELEN change only by the host's writes of them, reset apart (R35, R43). -/
def Obligations.OnlyHostWritesChangeEncoderBuffer : Prop :=
  ∀ s t : State, step s = .next t → s.nextInput.rst = false →
    (t.elen ≠ s.elen → ∃ v, writesReg s.nextInput .elen v) ∧
    ∀ k < 252, Memory.read t.mem (0x200 + k) ≠ Memory.read s.mem (0x200 + k) →
      ∃ (off : Offset) (b : Byte), off.toNat = 0x200 + k ∧ s.nextInput.host = some { off := off, op := .write1 b }

/-- PBUF and PLEN change only by the host's writes of them and by a capture, which writes bytes 0 to 7 alone; reset apart
(R30, R42, R71). -/
def Obligations.OnlyHostAndCaptureChangeParseBuffer : Prop :=
  ∀ s t : State, step s = .next t → s.nextInput.rst = false →
    (t.plen ≠ s.plen → (∃ v, writesReg s.nextInput .plen v) ∨ (t.plen = 8#9 ∧ t.elapsed = 0#32)) ∧
    ∀ k < 256, Memory.read t.mem (0x100 + k) ≠ Memory.read s.mem (0x100 + k) →
      (∃ (off : Offset) (b : Byte), off.toNat = 0x100 + k ∧ s.nextInput.host = some { off := off, op := .write1 b }) ∨
      (k < 8 ∧ t.plen = 8#9 ∧ t.elapsed = 0#32)

/-- RUNSTATE's transitions: started and stopped by CTRL, into DISPATCH from a running loop by an OK frame alone, out of
DISPATCH by DONE_TX, DONE_DROP and reset alone (R23, R158 to R161, R220). -/
def Obligations.LoopStateMovesOnlyByItsRules : Prop :=
  ∀ s t : State, step s = .next t →
    (s.nextInput.rst = true → t.runState = .stopped) ∧
    (s.nextInput.rst = false →
      (s.runState = .stopped → t.runState ≠ .stopped → ∃ v, writesReg s.nextInput .ctrl v ∧ v.getLsbD 0 = true) ∧
      (s.runState = .polling → t.runState = .stopped → ∃ v, writesReg s.nextInput .ctrl v ∧ v.getLsbD 0 = false) ∧
      (s.runState ≠ .dispatch → t.runState = .dispatch →
        t.parsed.pst = .ok ∧ t.plen = 8#9 ∧ t.elapsed = 0#32 ∧ 7 ≤ s.rxq.length) ∧
      (s.runState = .dispatch → t.runState ≠ .dispatch →
        cycleCommand s.nextInput = some .doneTx ∨ cycleCommand s.nextInput = some .doneDrop))

/-- A frame is handed to the sink exactly in the cycle of a DONE_TX in DISPATCH: TBUF[0..TLEN) as it stands, recorded after
the frames before it (R46, R150, R160).
Inputs listed in State and output fields are the model's choice (log entries 1, 2, 5). -/
def Obligations.FramesLeaveOnlyByDoneTx : Prop :=
  ∀ s t : State, step s = .next t →
    t.txFrame =
      (if cycleCommand s.nextInput = some .doneTx ∧ s.runState = .dispatch then
        some ((List.range s.tlen.toNat).map fun k => Memory.read s.mem (0x300 + k))
      else none) ∧
    t.txLog = s.txLog ++ t.txFrame.toList

/-- What sets and clears each status flag (R26, R48, R193, R196). -/
def Obligations.FlagsChangeOnlyByTheirEvents : Prop :=
  ∀ s t : State, step s = .next t → s.nextInput.rst = false →
    (t.vok ≠ s.vok → cycleCommand s.nextInput = some .crcVerify) ∧
    (s.cmdErr = false → t.cmdErr = true → ∃ w, writesReg s.nextInput .cmd w ∧ t.errCause ≠ .noError) ∧
    (s.cmdErr = true → t.cmdErr = false →
      ∃ v, writesReg s.nextInput .status v ∧ v.getLsbD 8 = true ∧ t.errCause = .noError) ∧
    (s.rxOvf = false → t.rxOvf = true → s.nextInput.rx ≠ none ∧ 256 ≤ s.rxq.length) ∧
    (s.rxOvf = true → t.rxOvf = false → ∃ v, writesReg s.nextInput .status v ∧ v.getLsbD 9 = true) ∧
    (t.parsed ≠ s.parsed → cycleCommand s.nextInput = some .decode ∨ (t.plen = 8#9 ∧ t.elapsed = 0#32))

/-- The diagnostic counters, both ways, in every cycle without reset and DIAG write: FERR_CNT counts a cycle exactly when
its loop phase captures 8 bytes whose CRC does not match, and DISC_CNT exactly when it flushes at least one byte and fewer
than 8, the first over canonical memory (the invariant of EveryCycleKeepsTheInvariant); each count shows in the state after, and a discarded byte was waiting or arrived in the cycle (R40, R155, R156,
R195). -/
def Obligations.DiagCountsDropsAndDiscards : Prop :=
  ∀ s t : State, step s = .next t → s.nextInput.rst = false → (∀ v, ¬writesReg s.nextInput .diag v) →
    (t.ferrCnt = s.ferrCnt ∨
      (t.ferrCnt = s.ferrCnt + 1#16 ∧ t.parsed.pst = .crcMismatch ∧ t.runState = .polling ∧ t.plen = 8#9)) ∧
    (t.discCnt = s.discCnt ∨
      (t.discCnt = s.discCnt + 1#16 ∧ t.rxq = [] ∧ t.elapsed = 0#32 ∧ t.runState = .polling ∧
        (s.rxq ≠ [] ∨ s.nextInput.rx ≠ none))) ∧
    ∃ h, hostPhase s.nextInput.host s.beginCycle = .next h ∧
      let u := tickPhase s.nextInput.tick (linePhase s.nextInput.rx h)
      (s.mem.wf = true →
        t.ferrCnt =
          (if u.runState = .polling ∧ 8 ≤ u.rxq.length ∧ receivedCrc (u.rxq.take 8) ≠ crc16 (u.rxq.take 6) then
            s.ferrCnt + 1#16
          else s.ferrCnt)) ∧
      t.discCnt =
        (if u.runState = .polling ∧ 1 ≤ u.rxq.length ∧ u.rxq.length < 8 ∧ u.idleTo.toNat < u.elapsed.toNat then
          s.discCnt + 1#16
        else s.discCnt)

/-- The interrupt rises only when a good frame is captured or IE is set in DISPATCH, and falls only by IE, the end of the
dispatch, or reset (R47, R198). -/
def Obligations.InterruptFollowsDispatchAndEnable : Prop :=
  ∀ s t : State, step s = .next t →
    (s.irq = false → t.irq = true →
      (∃ v, writesReg s.nextInput .ctrl v ∧ v.getLsbD 1 = true) ∨
      (s.runState ≠ .dispatch ∧ t.runState = .dispatch ∧ t.parsed.pst = .ok)) ∧
    (s.irq = true → t.irq = false →
      s.nextInput.rst = true ∨ (∃ v, writesReg s.nextInput .ctrl v ∧ v.getLsbD 1 = false) ∨
      cycleCommand s.nextInput = some .doneTx ∨ cycleCommand s.nextInput = some .doneDrop)

/-! ## Runs -/

/-- Whatever bytes and ticks arrive, at whatever times, the engine never faults, and a polling loop leaves POLLING only
into DISPATCH with an OK-decoded frame (R166, which the spec derives); that line traffic moves the loop out of no other state
is read from R153, R154 and R158. A run longer than the listed inputs goes on with idle cycles: the model's choice, log entry
1, as are the output fields (log entries 2, 5). -/
def Obligations.NoLineTrafficStopsTheLoop : Prop :=
  ∀ (n : Nat) (s : State), (∀ i ∈ s.inputs, lineOnly i) →
    ∃ t, runCycles n s = .next t ∧
      (s.runState = .polling → t.runState = .polling ∨ (t.runState = .dispatch ∧ t.parsed.pst = .ok)) ∧
      (s.runState ≠ .polling → t.runState = s.runState)

/-- The watchdog fires at the (IDLE_TO + 1)-th tick after a restart and not before, whatever idle cycles and line bytes
stand before, between and with the ticks, while fewer than 8 bytes wait in all: `before` are the cycles of the first IDLE_TO
ticks, `last` the cycle of the next tick, none with a host access or reset; a byte's arrival does not restart the timer
(R156, R165, R231).
Inputs listed in State and output fields are the model's choice (log entries 1, 2, 5). -/
def Obligations.WatchdogFiresAfterIdleToPlusOneTicks : Prop :=
  ∀ (s : State) (before rest : List CycleInput) (last : CycleInput), s.runState = .polling → s.elapsed = 0#32 →
    s.idleTo ≠ 0xFFFFFFFF#32 → (∀ i ∈ before ++ [last], lineOnly i) → before.countP (·.tick) = s.idleTo.toNat →
    last.tick = true → (s.rxq ++ (before ++ [last]).filterMap (·.rx)).length < 8 →
    s.inputs = before ++ last :: rest →
    (∀ n ≤ before.length,
      ∃ t, runCycles n s = .next t ∧ t.rxq = s.rxq ++ (before.take n).filterMap (·.rx) ∧
        t.elapsed.toNat = (before.take n).countP (·.tick) ∧ t.discCnt = s.discCnt ∧ t.runState = .polling) ∧
    ∃ t, runCycles (before.length + 1) s = .next t ∧ t.rxq = [] ∧ t.elapsed = 0#32 ∧ t.runState = .polling ∧
      t.discCnt =
        (if s.rxq ++ (before ++ [last]).filterMap (·.rx) = [] then s.discCnt else s.discCnt + 1#16) ∧
      t.inputs = rest

/-- With IDLE_TO = 0xFFFFFFFF the watchdog never fires: fewer than 8 bytes stay in the FIFO however many ticks come (R38).
Inputs listed in State and output fields are the model's choice (log entries 1, 2, 5). -/
def Obligations.WatchdogNeverFiresAtMaximum : Prop :=
  ∀ (n : Nat) (s : State), s.runState = .polling → s.rxq.length < 8 → s.idleTo = 0xFFFFFFFF#32 →
    s.inputs = List.replicate n (lineInput .tick) →
    ∃ t, runCycles n s = .next t ∧ t.rxq = s.rxq ∧ t.discCnt = s.discCnt ∧ t.runState = .polling ∧
      t.elapsed.toNat = min (s.elapsed.toNat + n) 0xFFFFFFFF

/-- Resynchronisation: whatever fewer than 8 stray bytes wait, a silence of IDLE_TO + 1 ticks and then a good frame, one
byte a cycle, bring that frame to DISPATCH, aligned (R155, R156, R164).
Inputs listed in State and output fields are the model's choice (log entries 1, 2, 5). -/
def Obligations.SilenceRestoresFrameAlignment : Prop :=
  ∀ (s : State) (d : List Byte), s.mem.wf = true → s.runState = .polling → s.rxq.length < 8 → s.elapsed = 0#32 →
    s.idleTo ≠ 0xFFFFFFFF#32 → d.length = 6 →
    let f := d ++ [loByte (crc16 d), hiByte (crc16 d)]
    s.inputs = List.replicate (s.idleTo.toNat + 1) (lineInput .tick) ++ f.map (fun b => lineInput (.rx b)) →
    ∃ t, runCycles (s.idleTo.toNat + 1 + 8) s = .next t ∧ t.runState = .dispatch ∧ t.parsed.pst = .ok ∧
      t.parsed.slave = d.getD 0 0#8 ∧ t.parsed.fc = d.getD 1 0#8 ∧ t.rxq = [] ∧
      ∀ k < 8, Memory.read t.mem (0x100 + k) = f.getD k 0#8

/-- What two host programs of R94 leave: `loadp` fills PBUF and PLEN outside POLLING and touches no other byte; `crcbytes`
leaves the CRC of its bytes in CRC_ACC, whatever the loop does meanwhile.
Inputs listed in State and output fields are the model's choice (log entries 1, 2, 5). -/
def Obligations.PseudoInstructionsLoadAndFold : Prop :=
  (∀ (s : State) (bs : List Byte), s.mem.wf = true → s.runState ≠ .polling → bs.length ≤ 256 →
    s.inputs = (expandPseudo (.loadp bs)).map lineInput →
    ∃ t, runCycles (bs.length + 1) s = .next t ∧ t.plen.toNat = bs.length ∧
      (∀ k < bs.length, Memory.read t.mem (0x100 + k) = bs.getD k 0#8) ∧
      (∀ x, x < 0x100 ∨ 0x100 + bs.length ≤ x → Memory.read t.mem x = Memory.read s.mem x) ∧
      t.runState = s.runState ∧ t.crcAcc = s.crcAcc) ∧
  ∀ (s : State) (bs : List Byte), s.inputs = (expandPseudo (.crcbytes bs)).map lineInput →
    ∃ t, runCycles (bs.length + 1) s = .next t ∧ t.crcAcc = crc16 bs

/-- The dispatcher's answer, `send` of R94: in two cycles the encoded response of the frame being dispatched leaves as one
frame, and the dispatch is over (R122, R160).
Inputs listed in State and output fields are the model's choice (log entries 1, 2, 5). -/
def Obligations.SendAnswersTheDispatch : Prop :=
  ∀ (s : State) (a b : Byte), s.mem.wf = true → s.runState = .dispatch → s.elen.toNat ≤ 252 → s.rxq.length < 8 →
    s.inputs = (expandPseudo (.send a b)).map lineInput →
    let body := a :: b :: (List.range s.elen.toNat).map fun k => Memory.read s.mem (0x200 + k)
    let f := body ++ [loByte (crc16 body), hiByte (crc16 body)]
    ∃ t, runCycles 2 s = .next t ∧ t.txFrame = some f ∧ t.txLog = s.txLog ++ [f] ∧ t.answer = .wrote ∧
      t.runState = (if s.run = true then .polling else .stopped) ∧ t.cmdErr = s.cmdErr
end

