-- ==== Sys2Proof/Laws/Crc.lean ====
section
/-! SUPPORT. The CRC function is linear over XOR and folds along append (R100, R101). -/

namespace Sys2Proof.Machine

@[simp] theorem crcFold_nil (acc : Half) : crcFold acc [] = acc := rfl

@[simp] theorem crcFold_cons (acc : Half) (b : Byte) (bs : List Byte) : crcFold acc (b :: bs) = crcFold (crcStep acc b) bs := rfl

theorem crcFold_append (acc : Half) (xs ys : List Byte) : crcFold acc (xs ++ ys) = crcFold (crcFold acc xs) ys :=
  List.foldl_append

theorem crc16_append (xs ys : List Byte) : crc16 (xs ++ ys) = crcFold (crc16 xs) ys := crcFold_append _ _ _

/-- One iteration is linear over XOR. -/
theorem crcBit_xor (x y : Half) : crcBit (x ^^^ y) = crcBit x ^^^ crcBit y := by
  simp only [crcBit, BitVec.getLsbD_xor, BitVec.ushiftRight_xor_distrib]
  cases x.getLsbD 0 <;> cases y.getLsbD 0 <;> simp [BitVec.xor_assoc, BitVec.xor_comm crcPoly]

/-- Any number of iterations is linear over XOR. -/
theorem crcBits_xor (k : Nat) (x y : Half) : crcBits k (x ^^^ y) = crcBits k x ^^^ crcBits k y := by
  induction k generalizing x y with
  | zero => rfl
  | succ k ih => simp only [crcBits, crcBit_xor, ih]

/-- One iteration loses nothing: only zero goes to zero. -/
theorem crcBit_eq_zero {x : Half} (h : crcBit x = 0#16) : x = 0#16 := by
  have bit : ∀ j, (crcBit x).getLsbD j = false := fun j => by rw [h, BitVec.getLsbD_zero]
  have low : x.getLsbD 0 = false := by
    cases odd : x.getLsbD 0
    · rfl
    · have top := bit 15
      rw [crcBit, if_pos odd, BitVec.getLsbD_xor, BitVec.getLsbD_ushiftRight, BitVec.getLsbD_of_ge x _ (by omega)] at top
      exact absurd top (by decide)
  apply BitVec.eq_of_getLsbD_eq
  intro i hi
  cases i with
  | zero => rw [low, BitVec.getLsbD_zero]
  | succ j =>
    have next := bit j
    rw [crcBit, if_neg (by rw [low]; decide), BitVec.getLsbD_ushiftRight] at next
    rw [Nat.add_comm j 1, next, BitVec.getLsbD_zero]

theorem crcBits_eq_zero {k : Nat} {x : Half} (h : crcBits k x = 0#16) : x = 0#16 := by
  induction k generalizing x with
  | zero => exact h
  | succ k ih => exact crcBit_eq_zero (ih h)

end Sys2Proof.Machine
end

