-- ==== Sys2Proof/Laws/State.lean ====
section
/-! SUPPORT. One lemma per field per update of the state, each true by rfl, so that no later proof unfolds a record update. -/

namespace Sys2Proof.Machine

variable (s : State)

@[simp] theorem setRunState_runState (r : RunState) : (State.setRunState s r).runState = r := rfl
@[simp] theorem setRunState_run (r : RunState) : (State.setRunState s r).run = s.run := rfl
@[simp] theorem setRunState_ie (r : RunState) : (State.setRunState s r).ie = s.ie := rfl
@[simp] theorem setRunState_vok (r : RunState) : (State.setRunState s r).vok = s.vok := rfl
@[simp] theorem setRunState_cmdErr (r : RunState) : (State.setRunState s r).cmdErr = s.cmdErr := rfl
@[simp] theorem setRunState_rxOvf (r : RunState) : (State.setRunState s r).rxOvf = s.rxOvf := rfl
@[simp] theorem setRunState_errCause (r : RunState) : (State.setRunState s r).errCause = s.errCause := rfl
@[simp] theorem setRunState_crcAcc (r : RunState) : (State.setRunState s r).crcAcc = s.crcAcc := rfl
@[simp] theorem setRunState_plen (r : RunState) : (State.setRunState s r).plen = s.plen := rfl
@[simp] theorem setRunState_parsed (r : RunState) : (State.setRunState s r).parsed = s.parsed := rfl
@[simp] theorem setRunState_elen (r : RunState) : (State.setRunState s r).elen = s.elen := rfl
@[simp] theorem setRunState_tlen (r : RunState) : (State.setRunState s r).tlen = s.tlen := rfl
@[simp] theorem setRunState_idleTo (r : RunState) : (State.setRunState s r).idleTo = s.idleTo := rfl
@[simp] theorem setRunState_elapsed (r : RunState) : (State.setRunState s r).elapsed = s.elapsed := rfl
@[simp] theorem setRunState_ferrCnt (r : RunState) : (State.setRunState s r).ferrCnt = s.ferrCnt := rfl
@[simp] theorem setRunState_discCnt (r : RunState) : (State.setRunState s r).discCnt = s.discCnt := rfl
@[simp] theorem setRunState_mem (r : RunState) : (State.setRunState s r).mem = s.mem := rfl
@[simp] theorem setRunState_rxq (r : RunState) : (State.setRunState s r).rxq = s.rxq := rfl
@[simp] theorem setRunState_answer (r : RunState) : (State.setRunState s r).answer = s.answer := rfl
@[simp] theorem setRunState_txFrame (r : RunState) : (State.setRunState s r).txFrame = s.txFrame := rfl
@[simp] theorem setRunState_txLog (r : RunState) : (State.setRunState s r).txLog = s.txLog := rfl
@[simp] theorem setRunState_inputs (r : RunState) : (State.setRunState s r).inputs = s.inputs := rfl

@[simp] theorem setCtrl_runState (a b : Bool) : (State.setCtrl s a b).runState = s.runState := rfl
@[simp] theorem setCtrl_run (a b : Bool) : (State.setCtrl s a b).run = a := rfl
@[simp] theorem setCtrl_ie (a b : Bool) : (State.setCtrl s a b).ie = b := rfl
@[simp] theorem setCtrl_vok (a b : Bool) : (State.setCtrl s a b).vok = s.vok := rfl
@[simp] theorem setCtrl_cmdErr (a b : Bool) : (State.setCtrl s a b).cmdErr = s.cmdErr := rfl
@[simp] theorem setCtrl_rxOvf (a b : Bool) : (State.setCtrl s a b).rxOvf = s.rxOvf := rfl
@[simp] theorem setCtrl_errCause (a b : Bool) : (State.setCtrl s a b).errCause = s.errCause := rfl
@[simp] theorem setCtrl_crcAcc (a b : Bool) : (State.setCtrl s a b).crcAcc = s.crcAcc := rfl
@[simp] theorem setCtrl_plen (a b : Bool) : (State.setCtrl s a b).plen = s.plen := rfl
@[simp] theorem setCtrl_parsed (a b : Bool) : (State.setCtrl s a b).parsed = s.parsed := rfl
@[simp] theorem setCtrl_elen (a b : Bool) : (State.setCtrl s a b).elen = s.elen := rfl
@[simp] theorem setCtrl_tlen (a b : Bool) : (State.setCtrl s a b).tlen = s.tlen := rfl
@[simp] theorem setCtrl_idleTo (a b : Bool) : (State.setCtrl s a b).idleTo = s.idleTo := rfl
@[simp] theorem setCtrl_elapsed (a b : Bool) : (State.setCtrl s a b).elapsed = s.elapsed := rfl
@[simp] theorem setCtrl_ferrCnt (a b : Bool) : (State.setCtrl s a b).ferrCnt = s.ferrCnt := rfl
@[simp] theorem setCtrl_discCnt (a b : Bool) : (State.setCtrl s a b).discCnt = s.discCnt := rfl
@[simp] theorem setCtrl_mem (a b : Bool) : (State.setCtrl s a b).mem = s.mem := rfl
@[simp] theorem setCtrl_rxq (a b : Bool) : (State.setCtrl s a b).rxq = s.rxq := rfl
@[simp] theorem setCtrl_answer (a b : Bool) : (State.setCtrl s a b).answer = s.answer := rfl
@[simp] theorem setCtrl_txFrame (a b : Bool) : (State.setCtrl s a b).txFrame = s.txFrame := rfl
@[simp] theorem setCtrl_txLog (a b : Bool) : (State.setCtrl s a b).txLog = s.txLog := rfl
@[simp] theorem setCtrl_inputs (a b : Bool) : (State.setCtrl s a b).inputs = s.inputs := rfl

@[simp] theorem setVok_runState (v : Bool) : (State.setVok s v).runState = s.runState := rfl
@[simp] theorem setVok_run (v : Bool) : (State.setVok s v).run = s.run := rfl
@[simp] theorem setVok_ie (v : Bool) : (State.setVok s v).ie = s.ie := rfl
@[simp] theorem setVok_vok (v : Bool) : (State.setVok s v).vok = v := rfl
@[simp] theorem setVok_cmdErr (v : Bool) : (State.setVok s v).cmdErr = s.cmdErr := rfl
@[simp] theorem setVok_rxOvf (v : Bool) : (State.setVok s v).rxOvf = s.rxOvf := rfl
@[simp] theorem setVok_errCause (v : Bool) : (State.setVok s v).errCause = s.errCause := rfl
@[simp] theorem setVok_crcAcc (v : Bool) : (State.setVok s v).crcAcc = s.crcAcc := rfl
@[simp] theorem setVok_plen (v : Bool) : (State.setVok s v).plen = s.plen := rfl
@[simp] theorem setVok_parsed (v : Bool) : (State.setVok s v).parsed = s.parsed := rfl
@[simp] theorem setVok_elen (v : Bool) : (State.setVok s v).elen = s.elen := rfl
@[simp] theorem setVok_tlen (v : Bool) : (State.setVok s v).tlen = s.tlen := rfl
@[simp] theorem setVok_idleTo (v : Bool) : (State.setVok s v).idleTo = s.idleTo := rfl
@[simp] theorem setVok_elapsed (v : Bool) : (State.setVok s v).elapsed = s.elapsed := rfl
@[simp] theorem setVok_ferrCnt (v : Bool) : (State.setVok s v).ferrCnt = s.ferrCnt := rfl
@[simp] theorem setVok_discCnt (v : Bool) : (State.setVok s v).discCnt = s.discCnt := rfl
@[simp] theorem setVok_mem (v : Bool) : (State.setVok s v).mem = s.mem := rfl
@[simp] theorem setVok_rxq (v : Bool) : (State.setVok s v).rxq = s.rxq := rfl
@[simp] theorem setVok_answer (v : Bool) : (State.setVok s v).answer = s.answer := rfl
@[simp] theorem setVok_txFrame (v : Bool) : (State.setVok s v).txFrame = s.txFrame := rfl
@[simp] theorem setVok_txLog (v : Bool) : (State.setVok s v).txLog = s.txLog := rfl
@[simp] theorem setVok_inputs (v : Bool) : (State.setVok s v).inputs = s.inputs := rfl

@[simp] theorem setRxOvf_runState (v : Bool) : (State.setRxOvf s v).runState = s.runState := rfl
@[simp] theorem setRxOvf_run (v : Bool) : (State.setRxOvf s v).run = s.run := rfl
@[simp] theorem setRxOvf_ie (v : Bool) : (State.setRxOvf s v).ie = s.ie := rfl
@[simp] theorem setRxOvf_vok (v : Bool) : (State.setRxOvf s v).vok = s.vok := rfl
@[simp] theorem setRxOvf_cmdErr (v : Bool) : (State.setRxOvf s v).cmdErr = s.cmdErr := rfl
@[simp] theorem setRxOvf_rxOvf (v : Bool) : (State.setRxOvf s v).rxOvf = v := rfl
@[simp] theorem setRxOvf_errCause (v : Bool) : (State.setRxOvf s v).errCause = s.errCause := rfl
@[simp] theorem setRxOvf_crcAcc (v : Bool) : (State.setRxOvf s v).crcAcc = s.crcAcc := rfl
@[simp] theorem setRxOvf_plen (v : Bool) : (State.setRxOvf s v).plen = s.plen := rfl
@[simp] theorem setRxOvf_parsed (v : Bool) : (State.setRxOvf s v).parsed = s.parsed := rfl
@[simp] theorem setRxOvf_elen (v : Bool) : (State.setRxOvf s v).elen = s.elen := rfl
@[simp] theorem setRxOvf_tlen (v : Bool) : (State.setRxOvf s v).tlen = s.tlen := rfl
@[simp] theorem setRxOvf_idleTo (v : Bool) : (State.setRxOvf s v).idleTo = s.idleTo := rfl
@[simp] theorem setRxOvf_elapsed (v : Bool) : (State.setRxOvf s v).elapsed = s.elapsed := rfl
@[simp] theorem setRxOvf_ferrCnt (v : Bool) : (State.setRxOvf s v).ferrCnt = s.ferrCnt := rfl
@[simp] theorem setRxOvf_discCnt (v : Bool) : (State.setRxOvf s v).discCnt = s.discCnt := rfl
@[simp] theorem setRxOvf_mem (v : Bool) : (State.setRxOvf s v).mem = s.mem := rfl
@[simp] theorem setRxOvf_rxq (v : Bool) : (State.setRxOvf s v).rxq = s.rxq := rfl
@[simp] theorem setRxOvf_answer (v : Bool) : (State.setRxOvf s v).answer = s.answer := rfl
@[simp] theorem setRxOvf_txFrame (v : Bool) : (State.setRxOvf s v).txFrame = s.txFrame := rfl
@[simp] theorem setRxOvf_txLog (v : Bool) : (State.setRxOvf s v).txLog = s.txLog := rfl
@[simp] theorem setRxOvf_inputs (v : Bool) : (State.setRxOvf s v).inputs = s.inputs := rfl

@[simp] theorem setCrcAcc_runState (v : Half) : (State.setCrcAcc s v).runState = s.runState := rfl
@[simp] theorem setCrcAcc_run (v : Half) : (State.setCrcAcc s v).run = s.run := rfl
@[simp] theorem setCrcAcc_ie (v : Half) : (State.setCrcAcc s v).ie = s.ie := rfl
@[simp] theorem setCrcAcc_vok (v : Half) : (State.setCrcAcc s v).vok = s.vok := rfl
@[simp] theorem setCrcAcc_cmdErr (v : Half) : (State.setCrcAcc s v).cmdErr = s.cmdErr := rfl
@[simp] theorem setCrcAcc_rxOvf (v : Half) : (State.setCrcAcc s v).rxOvf = s.rxOvf := rfl
@[simp] theorem setCrcAcc_errCause (v : Half) : (State.setCrcAcc s v).errCause = s.errCause := rfl
@[simp] theorem setCrcAcc_crcAcc (v : Half) : (State.setCrcAcc s v).crcAcc = v := rfl
@[simp] theorem setCrcAcc_plen (v : Half) : (State.setCrcAcc s v).plen = s.plen := rfl
@[simp] theorem setCrcAcc_parsed (v : Half) : (State.setCrcAcc s v).parsed = s.parsed := rfl
@[simp] theorem setCrcAcc_elen (v : Half) : (State.setCrcAcc s v).elen = s.elen := rfl
@[simp] theorem setCrcAcc_tlen (v : Half) : (State.setCrcAcc s v).tlen = s.tlen := rfl
@[simp] theorem setCrcAcc_idleTo (v : Half) : (State.setCrcAcc s v).idleTo = s.idleTo := rfl
@[simp] theorem setCrcAcc_elapsed (v : Half) : (State.setCrcAcc s v).elapsed = s.elapsed := rfl
@[simp] theorem setCrcAcc_ferrCnt (v : Half) : (State.setCrcAcc s v).ferrCnt = s.ferrCnt := rfl
@[simp] theorem setCrcAcc_discCnt (v : Half) : (State.setCrcAcc s v).discCnt = s.discCnt := rfl
@[simp] theorem setCrcAcc_mem (v : Half) : (State.setCrcAcc s v).mem = s.mem := rfl
@[simp] theorem setCrcAcc_rxq (v : Half) : (State.setCrcAcc s v).rxq = s.rxq := rfl
@[simp] theorem setCrcAcc_answer (v : Half) : (State.setCrcAcc s v).answer = s.answer := rfl
@[simp] theorem setCrcAcc_txFrame (v : Half) : (State.setCrcAcc s v).txFrame = s.txFrame := rfl
@[simp] theorem setCrcAcc_txLog (v : Half) : (State.setCrcAcc s v).txLog = s.txLog := rfl
@[simp] theorem setCrcAcc_inputs (v : Half) : (State.setCrcAcc s v).inputs = s.inputs := rfl

@[simp] theorem setPlen_runState (v : Len) : (State.setPlen s v).runState = s.runState := rfl
@[simp] theorem setPlen_run (v : Len) : (State.setPlen s v).run = s.run := rfl
@[simp] theorem setPlen_ie (v : Len) : (State.setPlen s v).ie = s.ie := rfl
@[simp] theorem setPlen_vok (v : Len) : (State.setPlen s v).vok = s.vok := rfl
@[simp] theorem setPlen_cmdErr (v : Len) : (State.setPlen s v).cmdErr = s.cmdErr := rfl
@[simp] theorem setPlen_rxOvf (v : Len) : (State.setPlen s v).rxOvf = s.rxOvf := rfl
@[simp] theorem setPlen_errCause (v : Len) : (State.setPlen s v).errCause = s.errCause := rfl
@[simp] theorem setPlen_crcAcc (v : Len) : (State.setPlen s v).crcAcc = s.crcAcc := rfl
@[simp] theorem setPlen_plen (v : Len) : (State.setPlen s v).plen = v := rfl
@[simp] theorem setPlen_parsed (v : Len) : (State.setPlen s v).parsed = s.parsed := rfl
@[simp] theorem setPlen_elen (v : Len) : (State.setPlen s v).elen = s.elen := rfl
@[simp] theorem setPlen_tlen (v : Len) : (State.setPlen s v).tlen = s.tlen := rfl
@[simp] theorem setPlen_idleTo (v : Len) : (State.setPlen s v).idleTo = s.idleTo := rfl
@[simp] theorem setPlen_elapsed (v : Len) : (State.setPlen s v).elapsed = s.elapsed := rfl
@[simp] theorem setPlen_ferrCnt (v : Len) : (State.setPlen s v).ferrCnt = s.ferrCnt := rfl
@[simp] theorem setPlen_discCnt (v : Len) : (State.setPlen s v).discCnt = s.discCnt := rfl
@[simp] theorem setPlen_mem (v : Len) : (State.setPlen s v).mem = s.mem := rfl
@[simp] theorem setPlen_rxq (v : Len) : (State.setPlen s v).rxq = s.rxq := rfl
@[simp] theorem setPlen_answer (v : Len) : (State.setPlen s v).answer = s.answer := rfl
@[simp] theorem setPlen_txFrame (v : Len) : (State.setPlen s v).txFrame = s.txFrame := rfl
@[simp] theorem setPlen_txLog (v : Len) : (State.setPlen s v).txLog = s.txLog := rfl
@[simp] theorem setPlen_inputs (v : Len) : (State.setPlen s v).inputs = s.inputs := rfl

@[simp] theorem setParsed_runState (v : Parsed) : (State.setParsed s v).runState = s.runState := rfl
@[simp] theorem setParsed_run (v : Parsed) : (State.setParsed s v).run = s.run := rfl
@[simp] theorem setParsed_ie (v : Parsed) : (State.setParsed s v).ie = s.ie := rfl
@[simp] theorem setParsed_vok (v : Parsed) : (State.setParsed s v).vok = s.vok := rfl
@[simp] theorem setParsed_cmdErr (v : Parsed) : (State.setParsed s v).cmdErr = s.cmdErr := rfl
@[simp] theorem setParsed_rxOvf (v : Parsed) : (State.setParsed s v).rxOvf = s.rxOvf := rfl
@[simp] theorem setParsed_errCause (v : Parsed) : (State.setParsed s v).errCause = s.errCause := rfl
@[simp] theorem setParsed_crcAcc (v : Parsed) : (State.setParsed s v).crcAcc = s.crcAcc := rfl
@[simp] theorem setParsed_plen (v : Parsed) : (State.setParsed s v).plen = s.plen := rfl
@[simp] theorem setParsed_parsed (v : Parsed) : (State.setParsed s v).parsed = v := rfl
@[simp] theorem setParsed_elen (v : Parsed) : (State.setParsed s v).elen = s.elen := rfl
@[simp] theorem setParsed_tlen (v : Parsed) : (State.setParsed s v).tlen = s.tlen := rfl
@[simp] theorem setParsed_idleTo (v : Parsed) : (State.setParsed s v).idleTo = s.idleTo := rfl
@[simp] theorem setParsed_elapsed (v : Parsed) : (State.setParsed s v).elapsed = s.elapsed := rfl
@[simp] theorem setParsed_ferrCnt (v : Parsed) : (State.setParsed s v).ferrCnt = s.ferrCnt := rfl
@[simp] theorem setParsed_discCnt (v : Parsed) : (State.setParsed s v).discCnt = s.discCnt := rfl
@[simp] theorem setParsed_mem (v : Parsed) : (State.setParsed s v).mem = s.mem := rfl
@[simp] theorem setParsed_rxq (v : Parsed) : (State.setParsed s v).rxq = s.rxq := rfl
@[simp] theorem setParsed_answer (v : Parsed) : (State.setParsed s v).answer = s.answer := rfl
@[simp] theorem setParsed_txFrame (v : Parsed) : (State.setParsed s v).txFrame = s.txFrame := rfl
@[simp] theorem setParsed_txLog (v : Parsed) : (State.setParsed s v).txLog = s.txLog := rfl
@[simp] theorem setParsed_inputs (v : Parsed) : (State.setParsed s v).inputs = s.inputs := rfl

@[simp] theorem setElen_runState (v : Len) : (State.setElen s v).runState = s.runState := rfl
@[simp] theorem setElen_run (v : Len) : (State.setElen s v).run = s.run := rfl
@[simp] theorem setElen_ie (v : Len) : (State.setElen s v).ie = s.ie := rfl
@[simp] theorem setElen_vok (v : Len) : (State.setElen s v).vok = s.vok := rfl
@[simp] theorem setElen_cmdErr (v : Len) : (State.setElen s v).cmdErr = s.cmdErr := rfl
@[simp] theorem setElen_rxOvf (v : Len) : (State.setElen s v).rxOvf = s.rxOvf := rfl
@[simp] theorem setElen_errCause (v : Len) : (State.setElen s v).errCause = s.errCause := rfl
@[simp] theorem setElen_crcAcc (v : Len) : (State.setElen s v).crcAcc = s.crcAcc := rfl
@[simp] theorem setElen_plen (v : Len) : (State.setElen s v).plen = s.plen := rfl
@[simp] theorem setElen_parsed (v : Len) : (State.setElen s v).parsed = s.parsed := rfl
@[simp] theorem setElen_elen (v : Len) : (State.setElen s v).elen = v := rfl
@[simp] theorem setElen_tlen (v : Len) : (State.setElen s v).tlen = s.tlen := rfl
@[simp] theorem setElen_idleTo (v : Len) : (State.setElen s v).idleTo = s.idleTo := rfl
@[simp] theorem setElen_elapsed (v : Len) : (State.setElen s v).elapsed = s.elapsed := rfl
@[simp] theorem setElen_ferrCnt (v : Len) : (State.setElen s v).ferrCnt = s.ferrCnt := rfl
@[simp] theorem setElen_discCnt (v : Len) : (State.setElen s v).discCnt = s.discCnt := rfl
@[simp] theorem setElen_mem (v : Len) : (State.setElen s v).mem = s.mem := rfl
@[simp] theorem setElen_rxq (v : Len) : (State.setElen s v).rxq = s.rxq := rfl
@[simp] theorem setElen_answer (v : Len) : (State.setElen s v).answer = s.answer := rfl
@[simp] theorem setElen_txFrame (v : Len) : (State.setElen s v).txFrame = s.txFrame := rfl
@[simp] theorem setElen_txLog (v : Len) : (State.setElen s v).txLog = s.txLog := rfl
@[simp] theorem setElen_inputs (v : Len) : (State.setElen s v).inputs = s.inputs := rfl

@[simp] theorem setTlen_runState (v : Len) : (State.setTlen s v).runState = s.runState := rfl
@[simp] theorem setTlen_run (v : Len) : (State.setTlen s v).run = s.run := rfl
@[simp] theorem setTlen_ie (v : Len) : (State.setTlen s v).ie = s.ie := rfl
@[simp] theorem setTlen_vok (v : Len) : (State.setTlen s v).vok = s.vok := rfl
@[simp] theorem setTlen_cmdErr (v : Len) : (State.setTlen s v).cmdErr = s.cmdErr := rfl
@[simp] theorem setTlen_rxOvf (v : Len) : (State.setTlen s v).rxOvf = s.rxOvf := rfl
@[simp] theorem setTlen_errCause (v : Len) : (State.setTlen s v).errCause = s.errCause := rfl
@[simp] theorem setTlen_crcAcc (v : Len) : (State.setTlen s v).crcAcc = s.crcAcc := rfl
@[simp] theorem setTlen_plen (v : Len) : (State.setTlen s v).plen = s.plen := rfl
@[simp] theorem setTlen_parsed (v : Len) : (State.setTlen s v).parsed = s.parsed := rfl
@[simp] theorem setTlen_elen (v : Len) : (State.setTlen s v).elen = s.elen := rfl
@[simp] theorem setTlen_tlen (v : Len) : (State.setTlen s v).tlen = v := rfl
@[simp] theorem setTlen_idleTo (v : Len) : (State.setTlen s v).idleTo = s.idleTo := rfl
@[simp] theorem setTlen_elapsed (v : Len) : (State.setTlen s v).elapsed = s.elapsed := rfl
@[simp] theorem setTlen_ferrCnt (v : Len) : (State.setTlen s v).ferrCnt = s.ferrCnt := rfl
@[simp] theorem setTlen_discCnt (v : Len) : (State.setTlen s v).discCnt = s.discCnt := rfl
@[simp] theorem setTlen_mem (v : Len) : (State.setTlen s v).mem = s.mem := rfl
@[simp] theorem setTlen_rxq (v : Len) : (State.setTlen s v).rxq = s.rxq := rfl
@[simp] theorem setTlen_answer (v : Len) : (State.setTlen s v).answer = s.answer := rfl
@[simp] theorem setTlen_txFrame (v : Len) : (State.setTlen s v).txFrame = s.txFrame := rfl
@[simp] theorem setTlen_txLog (v : Len) : (State.setTlen s v).txLog = s.txLog := rfl
@[simp] theorem setTlen_inputs (v : Len) : (State.setTlen s v).inputs = s.inputs := rfl

@[simp] theorem setIdleTo_runState (v : Word) : (State.setIdleTo s v).runState = s.runState := rfl
@[simp] theorem setIdleTo_run (v : Word) : (State.setIdleTo s v).run = s.run := rfl
@[simp] theorem setIdleTo_ie (v : Word) : (State.setIdleTo s v).ie = s.ie := rfl
@[simp] theorem setIdleTo_vok (v : Word) : (State.setIdleTo s v).vok = s.vok := rfl
@[simp] theorem setIdleTo_cmdErr (v : Word) : (State.setIdleTo s v).cmdErr = s.cmdErr := rfl
@[simp] theorem setIdleTo_rxOvf (v : Word) : (State.setIdleTo s v).rxOvf = s.rxOvf := rfl
@[simp] theorem setIdleTo_errCause (v : Word) : (State.setIdleTo s v).errCause = s.errCause := rfl
@[simp] theorem setIdleTo_crcAcc (v : Word) : (State.setIdleTo s v).crcAcc = s.crcAcc := rfl
@[simp] theorem setIdleTo_plen (v : Word) : (State.setIdleTo s v).plen = s.plen := rfl
@[simp] theorem setIdleTo_parsed (v : Word) : (State.setIdleTo s v).parsed = s.parsed := rfl
@[simp] theorem setIdleTo_elen (v : Word) : (State.setIdleTo s v).elen = s.elen := rfl
@[simp] theorem setIdleTo_tlen (v : Word) : (State.setIdleTo s v).tlen = s.tlen := rfl
@[simp] theorem setIdleTo_idleTo (v : Word) : (State.setIdleTo s v).idleTo = v := rfl
@[simp] theorem setIdleTo_elapsed (v : Word) : (State.setIdleTo s v).elapsed = s.elapsed := rfl
@[simp] theorem setIdleTo_ferrCnt (v : Word) : (State.setIdleTo s v).ferrCnt = s.ferrCnt := rfl
@[simp] theorem setIdleTo_discCnt (v : Word) : (State.setIdleTo s v).discCnt = s.discCnt := rfl
@[simp] theorem setIdleTo_mem (v : Word) : (State.setIdleTo s v).mem = s.mem := rfl
@[simp] theorem setIdleTo_rxq (v : Word) : (State.setIdleTo s v).rxq = s.rxq := rfl
@[simp] theorem setIdleTo_answer (v : Word) : (State.setIdleTo s v).answer = s.answer := rfl
@[simp] theorem setIdleTo_txFrame (v : Word) : (State.setIdleTo s v).txFrame = s.txFrame := rfl
@[simp] theorem setIdleTo_txLog (v : Word) : (State.setIdleTo s v).txLog = s.txLog := rfl
@[simp] theorem setIdleTo_inputs (v : Word) : (State.setIdleTo s v).inputs = s.inputs := rfl

@[simp] theorem setElapsed_runState (v : Word) : (State.setElapsed s v).runState = s.runState := rfl
@[simp] theorem setElapsed_run (v : Word) : (State.setElapsed s v).run = s.run := rfl
@[simp] theorem setElapsed_ie (v : Word) : (State.setElapsed s v).ie = s.ie := rfl
@[simp] theorem setElapsed_vok (v : Word) : (State.setElapsed s v).vok = s.vok := rfl
@[simp] theorem setElapsed_cmdErr (v : Word) : (State.setElapsed s v).cmdErr = s.cmdErr := rfl
@[simp] theorem setElapsed_rxOvf (v : Word) : (State.setElapsed s v).rxOvf = s.rxOvf := rfl
@[simp] theorem setElapsed_errCause (v : Word) : (State.setElapsed s v).errCause = s.errCause := rfl
@[simp] theorem setElapsed_crcAcc (v : Word) : (State.setElapsed s v).crcAcc = s.crcAcc := rfl
@[simp] theorem setElapsed_plen (v : Word) : (State.setElapsed s v).plen = s.plen := rfl
@[simp] theorem setElapsed_parsed (v : Word) : (State.setElapsed s v).parsed = s.parsed := rfl
@[simp] theorem setElapsed_elen (v : Word) : (State.setElapsed s v).elen = s.elen := rfl
@[simp] theorem setElapsed_tlen (v : Word) : (State.setElapsed s v).tlen = s.tlen := rfl
@[simp] theorem setElapsed_idleTo (v : Word) : (State.setElapsed s v).idleTo = s.idleTo := rfl
@[simp] theorem setElapsed_elapsed (v : Word) : (State.setElapsed s v).elapsed = v := rfl
@[simp] theorem setElapsed_ferrCnt (v : Word) : (State.setElapsed s v).ferrCnt = s.ferrCnt := rfl
@[simp] theorem setElapsed_discCnt (v : Word) : (State.setElapsed s v).discCnt = s.discCnt := rfl
@[simp] theorem setElapsed_mem (v : Word) : (State.setElapsed s v).mem = s.mem := rfl
@[simp] theorem setElapsed_rxq (v : Word) : (State.setElapsed s v).rxq = s.rxq := rfl
@[simp] theorem setElapsed_answer (v : Word) : (State.setElapsed s v).answer = s.answer := rfl
@[simp] theorem setElapsed_txFrame (v : Word) : (State.setElapsed s v).txFrame = s.txFrame := rfl
@[simp] theorem setElapsed_txLog (v : Word) : (State.setElapsed s v).txLog = s.txLog := rfl
@[simp] theorem setElapsed_inputs (v : Word) : (State.setElapsed s v).inputs = s.inputs := rfl

@[simp] theorem setDiag_runState (a b : Half) : (State.setDiag s a b).runState = s.runState := rfl
@[simp] theorem setDiag_run (a b : Half) : (State.setDiag s a b).run = s.run := rfl
@[simp] theorem setDiag_ie (a b : Half) : (State.setDiag s a b).ie = s.ie := rfl
@[simp] theorem setDiag_vok (a b : Half) : (State.setDiag s a b).vok = s.vok := rfl
@[simp] theorem setDiag_cmdErr (a b : Half) : (State.setDiag s a b).cmdErr = s.cmdErr := rfl
@[simp] theorem setDiag_rxOvf (a b : Half) : (State.setDiag s a b).rxOvf = s.rxOvf := rfl
@[simp] theorem setDiag_errCause (a b : Half) : (State.setDiag s a b).errCause = s.errCause := rfl
@[simp] theorem setDiag_crcAcc (a b : Half) : (State.setDiag s a b).crcAcc = s.crcAcc := rfl
@[simp] theorem setDiag_plen (a b : Half) : (State.setDiag s a b).plen = s.plen := rfl
@[simp] theorem setDiag_parsed (a b : Half) : (State.setDiag s a b).parsed = s.parsed := rfl
@[simp] theorem setDiag_elen (a b : Half) : (State.setDiag s a b).elen = s.elen := rfl
@[simp] theorem setDiag_tlen (a b : Half) : (State.setDiag s a b).tlen = s.tlen := rfl
@[simp] theorem setDiag_idleTo (a b : Half) : (State.setDiag s a b).idleTo = s.idleTo := rfl
@[simp] theorem setDiag_elapsed (a b : Half) : (State.setDiag s a b).elapsed = s.elapsed := rfl
@[simp] theorem setDiag_ferrCnt (a b : Half) : (State.setDiag s a b).ferrCnt = a := rfl
@[simp] theorem setDiag_discCnt (a b : Half) : (State.setDiag s a b).discCnt = b := rfl
@[simp] theorem setDiag_mem (a b : Half) : (State.setDiag s a b).mem = s.mem := rfl
@[simp] theorem setDiag_rxq (a b : Half) : (State.setDiag s a b).rxq = s.rxq := rfl
@[simp] theorem setDiag_answer (a b : Half) : (State.setDiag s a b).answer = s.answer := rfl
@[simp] theorem setDiag_txFrame (a b : Half) : (State.setDiag s a b).txFrame = s.txFrame := rfl
@[simp] theorem setDiag_txLog (a b : Half) : (State.setDiag s a b).txLog = s.txLog := rfl
@[simp] theorem setDiag_inputs (a b : Half) : (State.setDiag s a b).inputs = s.inputs := rfl

@[simp] theorem setMem_runState (v : Memory) : (State.setMem s v).runState = s.runState := rfl
@[simp] theorem setMem_run (v : Memory) : (State.setMem s v).run = s.run := rfl
@[simp] theorem setMem_ie (v : Memory) : (State.setMem s v).ie = s.ie := rfl
@[simp] theorem setMem_vok (v : Memory) : (State.setMem s v).vok = s.vok := rfl
@[simp] theorem setMem_cmdErr (v : Memory) : (State.setMem s v).cmdErr = s.cmdErr := rfl
@[simp] theorem setMem_rxOvf (v : Memory) : (State.setMem s v).rxOvf = s.rxOvf := rfl
@[simp] theorem setMem_errCause (v : Memory) : (State.setMem s v).errCause = s.errCause := rfl
@[simp] theorem setMem_crcAcc (v : Memory) : (State.setMem s v).crcAcc = s.crcAcc := rfl
@[simp] theorem setMem_plen (v : Memory) : (State.setMem s v).plen = s.plen := rfl
@[simp] theorem setMem_parsed (v : Memory) : (State.setMem s v).parsed = s.parsed := rfl
@[simp] theorem setMem_elen (v : Memory) : (State.setMem s v).elen = s.elen := rfl
@[simp] theorem setMem_tlen (v : Memory) : (State.setMem s v).tlen = s.tlen := rfl
@[simp] theorem setMem_idleTo (v : Memory) : (State.setMem s v).idleTo = s.idleTo := rfl
@[simp] theorem setMem_elapsed (v : Memory) : (State.setMem s v).elapsed = s.elapsed := rfl
@[simp] theorem setMem_ferrCnt (v : Memory) : (State.setMem s v).ferrCnt = s.ferrCnt := rfl
@[simp] theorem setMem_discCnt (v : Memory) : (State.setMem s v).discCnt = s.discCnt := rfl
@[simp] theorem setMem_mem (v : Memory) : (State.setMem s v).mem = v := rfl
@[simp] theorem setMem_rxq (v : Memory) : (State.setMem s v).rxq = s.rxq := rfl
@[simp] theorem setMem_answer (v : Memory) : (State.setMem s v).answer = s.answer := rfl
@[simp] theorem setMem_txFrame (v : Memory) : (State.setMem s v).txFrame = s.txFrame := rfl
@[simp] theorem setMem_txLog (v : Memory) : (State.setMem s v).txLog = s.txLog := rfl
@[simp] theorem setMem_inputs (v : Memory) : (State.setMem s v).inputs = s.inputs := rfl

@[simp] theorem setRxq_runState (v : List Byte) : (State.setRxq s v).runState = s.runState := rfl
@[simp] theorem setRxq_run (v : List Byte) : (State.setRxq s v).run = s.run := rfl
@[simp] theorem setRxq_ie (v : List Byte) : (State.setRxq s v).ie = s.ie := rfl
@[simp] theorem setRxq_vok (v : List Byte) : (State.setRxq s v).vok = s.vok := rfl
@[simp] theorem setRxq_cmdErr (v : List Byte) : (State.setRxq s v).cmdErr = s.cmdErr := rfl
@[simp] theorem setRxq_rxOvf (v : List Byte) : (State.setRxq s v).rxOvf = s.rxOvf := rfl
@[simp] theorem setRxq_errCause (v : List Byte) : (State.setRxq s v).errCause = s.errCause := rfl
@[simp] theorem setRxq_crcAcc (v : List Byte) : (State.setRxq s v).crcAcc = s.crcAcc := rfl
@[simp] theorem setRxq_plen (v : List Byte) : (State.setRxq s v).plen = s.plen := rfl
@[simp] theorem setRxq_parsed (v : List Byte) : (State.setRxq s v).parsed = s.parsed := rfl
@[simp] theorem setRxq_elen (v : List Byte) : (State.setRxq s v).elen = s.elen := rfl
@[simp] theorem setRxq_tlen (v : List Byte) : (State.setRxq s v).tlen = s.tlen := rfl
@[simp] theorem setRxq_idleTo (v : List Byte) : (State.setRxq s v).idleTo = s.idleTo := rfl
@[simp] theorem setRxq_elapsed (v : List Byte) : (State.setRxq s v).elapsed = s.elapsed := rfl
@[simp] theorem setRxq_ferrCnt (v : List Byte) : (State.setRxq s v).ferrCnt = s.ferrCnt := rfl
@[simp] theorem setRxq_discCnt (v : List Byte) : (State.setRxq s v).discCnt = s.discCnt := rfl
@[simp] theorem setRxq_mem (v : List Byte) : (State.setRxq s v).mem = s.mem := rfl
@[simp] theorem setRxq_rxq (v : List Byte) : (State.setRxq s v).rxq = v := rfl
@[simp] theorem setRxq_answer (v : List Byte) : (State.setRxq s v).answer = s.answer := rfl
@[simp] theorem setRxq_txFrame (v : List Byte) : (State.setRxq s v).txFrame = s.txFrame := rfl
@[simp] theorem setRxq_txLog (v : List Byte) : (State.setRxq s v).txLog = s.txLog := rfl
@[simp] theorem setRxq_inputs (v : List Byte) : (State.setRxq s v).inputs = s.inputs := rfl

@[simp] theorem setAnswer_runState (v : Answer) : (State.setAnswer s v).runState = s.runState := rfl
@[simp] theorem setAnswer_run (v : Answer) : (State.setAnswer s v).run = s.run := rfl
@[simp] theorem setAnswer_ie (v : Answer) : (State.setAnswer s v).ie = s.ie := rfl
@[simp] theorem setAnswer_vok (v : Answer) : (State.setAnswer s v).vok = s.vok := rfl
@[simp] theorem setAnswer_cmdErr (v : Answer) : (State.setAnswer s v).cmdErr = s.cmdErr := rfl
@[simp] theorem setAnswer_rxOvf (v : Answer) : (State.setAnswer s v).rxOvf = s.rxOvf := rfl
@[simp] theorem setAnswer_errCause (v : Answer) : (State.setAnswer s v).errCause = s.errCause := rfl
@[simp] theorem setAnswer_crcAcc (v : Answer) : (State.setAnswer s v).crcAcc = s.crcAcc := rfl
@[simp] theorem setAnswer_plen (v : Answer) : (State.setAnswer s v).plen = s.plen := rfl
@[simp] theorem setAnswer_parsed (v : Answer) : (State.setAnswer s v).parsed = s.parsed := rfl
@[simp] theorem setAnswer_elen (v : Answer) : (State.setAnswer s v).elen = s.elen := rfl
@[simp] theorem setAnswer_tlen (v : Answer) : (State.setAnswer s v).tlen = s.tlen := rfl
@[simp] theorem setAnswer_idleTo (v : Answer) : (State.setAnswer s v).idleTo = s.idleTo := rfl
@[simp] theorem setAnswer_elapsed (v : Answer) : (State.setAnswer s v).elapsed = s.elapsed := rfl
@[simp] theorem setAnswer_ferrCnt (v : Answer) : (State.setAnswer s v).ferrCnt = s.ferrCnt := rfl
@[simp] theorem setAnswer_discCnt (v : Answer) : (State.setAnswer s v).discCnt = s.discCnt := rfl
@[simp] theorem setAnswer_mem (v : Answer) : (State.setAnswer s v).mem = s.mem := rfl
@[simp] theorem setAnswer_rxq (v : Answer) : (State.setAnswer s v).rxq = s.rxq := rfl
@[simp] theorem setAnswer_answer (v : Answer) : (State.setAnswer s v).answer = v := rfl
@[simp] theorem setAnswer_txFrame (v : Answer) : (State.setAnswer s v).txFrame = s.txFrame := rfl
@[simp] theorem setAnswer_txLog (v : Answer) : (State.setAnswer s v).txLog = s.txLog := rfl
@[simp] theorem setAnswer_inputs (v : Answer) : (State.setAnswer s v).inputs = s.inputs := rfl

@[simp] theorem setInputs_runState (v : List CycleInput) : (State.setInputs s v).runState = s.runState := rfl
@[simp] theorem setInputs_run (v : List CycleInput) : (State.setInputs s v).run = s.run := rfl
@[simp] theorem setInputs_ie (v : List CycleInput) : (State.setInputs s v).ie = s.ie := rfl
@[simp] theorem setInputs_vok (v : List CycleInput) : (State.setInputs s v).vok = s.vok := rfl
@[simp] theorem setInputs_cmdErr (v : List CycleInput) : (State.setInputs s v).cmdErr = s.cmdErr := rfl
@[simp] theorem setInputs_rxOvf (v : List CycleInput) : (State.setInputs s v).rxOvf = s.rxOvf := rfl
@[simp] theorem setInputs_errCause (v : List CycleInput) : (State.setInputs s v).errCause = s.errCause := rfl
@[simp] theorem setInputs_crcAcc (v : List CycleInput) : (State.setInputs s v).crcAcc = s.crcAcc := rfl
@[simp] theorem setInputs_plen (v : List CycleInput) : (State.setInputs s v).plen = s.plen := rfl
@[simp] theorem setInputs_parsed (v : List CycleInput) : (State.setInputs s v).parsed = s.parsed := rfl
@[simp] theorem setInputs_elen (v : List CycleInput) : (State.setInputs s v).elen = s.elen := rfl
@[simp] theorem setInputs_tlen (v : List CycleInput) : (State.setInputs s v).tlen = s.tlen := rfl
@[simp] theorem setInputs_idleTo (v : List CycleInput) : (State.setInputs s v).idleTo = s.idleTo := rfl
@[simp] theorem setInputs_elapsed (v : List CycleInput) : (State.setInputs s v).elapsed = s.elapsed := rfl
@[simp] theorem setInputs_ferrCnt (v : List CycleInput) : (State.setInputs s v).ferrCnt = s.ferrCnt := rfl
@[simp] theorem setInputs_discCnt (v : List CycleInput) : (State.setInputs s v).discCnt = s.discCnt := rfl
@[simp] theorem setInputs_mem (v : List CycleInput) : (State.setInputs s v).mem = s.mem := rfl
@[simp] theorem setInputs_rxq (v : List CycleInput) : (State.setInputs s v).rxq = s.rxq := rfl
@[simp] theorem setInputs_answer (v : List CycleInput) : (State.setInputs s v).answer = s.answer := rfl
@[simp] theorem setInputs_txFrame (v : List CycleInput) : (State.setInputs s v).txFrame = s.txFrame := rfl
@[simp] theorem setInputs_txLog (v : List CycleInput) : (State.setInputs s v).txLog = s.txLog := rfl
@[simp] theorem setInputs_inputs (v : List CycleInput) : (State.setInputs s v).inputs = v := rfl

@[simp] theorem raiseCmdError_runState (c : ErrCause) : (State.raiseCmdError s c).runState = s.runState := rfl
@[simp] theorem raiseCmdError_run (c : ErrCause) : (State.raiseCmdError s c).run = s.run := rfl
@[simp] theorem raiseCmdError_ie (c : ErrCause) : (State.raiseCmdError s c).ie = s.ie := rfl
@[simp] theorem raiseCmdError_vok (c : ErrCause) : (State.raiseCmdError s c).vok = s.vok := rfl
@[simp] theorem raiseCmdError_cmdErr (c : ErrCause) : (State.raiseCmdError s c).cmdErr = true := rfl
@[simp] theorem raiseCmdError_rxOvf (c : ErrCause) : (State.raiseCmdError s c).rxOvf = s.rxOvf := rfl
@[simp] theorem raiseCmdError_errCause (c : ErrCause) : (State.raiseCmdError s c).errCause = c := rfl
@[simp] theorem raiseCmdError_crcAcc (c : ErrCause) : (State.raiseCmdError s c).crcAcc = s.crcAcc := rfl
@[simp] theorem raiseCmdError_plen (c : ErrCause) : (State.raiseCmdError s c).plen = s.plen := rfl
@[simp] theorem raiseCmdError_parsed (c : ErrCause) : (State.raiseCmdError s c).parsed = s.parsed := rfl
@[simp] theorem raiseCmdError_elen (c : ErrCause) : (State.raiseCmdError s c).elen = s.elen := rfl
@[simp] theorem raiseCmdError_tlen (c : ErrCause) : (State.raiseCmdError s c).tlen = s.tlen := rfl
@[simp] theorem raiseCmdError_idleTo (c : ErrCause) : (State.raiseCmdError s c).idleTo = s.idleTo := rfl
@[simp] theorem raiseCmdError_elapsed (c : ErrCause) : (State.raiseCmdError s c).elapsed = s.elapsed := rfl
@[simp] theorem raiseCmdError_ferrCnt (c : ErrCause) : (State.raiseCmdError s c).ferrCnt = s.ferrCnt := rfl
@[simp] theorem raiseCmdError_discCnt (c : ErrCause) : (State.raiseCmdError s c).discCnt = s.discCnt := rfl
@[simp] theorem raiseCmdError_mem (c : ErrCause) : (State.raiseCmdError s c).mem = s.mem := rfl
@[simp] theorem raiseCmdError_rxq (c : ErrCause) : (State.raiseCmdError s c).rxq = s.rxq := rfl
@[simp] theorem raiseCmdError_answer (c : ErrCause) : (State.raiseCmdError s c).answer = s.answer := rfl
@[simp] theorem raiseCmdError_txFrame (c : ErrCause) : (State.raiseCmdError s c).txFrame = s.txFrame := rfl
@[simp] theorem raiseCmdError_txLog (c : ErrCause) : (State.raiseCmdError s c).txLog = s.txLog := rfl
@[simp] theorem raiseCmdError_inputs (c : ErrCause) : (State.raiseCmdError s c).inputs = s.inputs := rfl

@[simp] theorem clearCmdError_runState : (State.clearCmdError s).runState = s.runState := rfl
@[simp] theorem clearCmdError_run : (State.clearCmdError s).run = s.run := rfl
@[simp] theorem clearCmdError_ie : (State.clearCmdError s).ie = s.ie := rfl
@[simp] theorem clearCmdError_vok : (State.clearCmdError s).vok = s.vok := rfl
@[simp] theorem clearCmdError_cmdErr : (State.clearCmdError s).cmdErr = false := rfl
@[simp] theorem clearCmdError_rxOvf : (State.clearCmdError s).rxOvf = s.rxOvf := rfl
@[simp] theorem clearCmdError_errCause : (State.clearCmdError s).errCause = .noError := rfl
@[simp] theorem clearCmdError_crcAcc : (State.clearCmdError s).crcAcc = s.crcAcc := rfl
@[simp] theorem clearCmdError_plen : (State.clearCmdError s).plen = s.plen := rfl
@[simp] theorem clearCmdError_parsed : (State.clearCmdError s).parsed = s.parsed := rfl
@[simp] theorem clearCmdError_elen : (State.clearCmdError s).elen = s.elen := rfl
@[simp] theorem clearCmdError_tlen : (State.clearCmdError s).tlen = s.tlen := rfl
@[simp] theorem clearCmdError_idleTo : (State.clearCmdError s).idleTo = s.idleTo := rfl
@[simp] theorem clearCmdError_elapsed : (State.clearCmdError s).elapsed = s.elapsed := rfl
@[simp] theorem clearCmdError_ferrCnt : (State.clearCmdError s).ferrCnt = s.ferrCnt := rfl
@[simp] theorem clearCmdError_discCnt : (State.clearCmdError s).discCnt = s.discCnt := rfl
@[simp] theorem clearCmdError_mem : (State.clearCmdError s).mem = s.mem := rfl
@[simp] theorem clearCmdError_rxq : (State.clearCmdError s).rxq = s.rxq := rfl
@[simp] theorem clearCmdError_answer : (State.clearCmdError s).answer = s.answer := rfl
@[simp] theorem clearCmdError_txFrame : (State.clearCmdError s).txFrame = s.txFrame := rfl
@[simp] theorem clearCmdError_txLog : (State.clearCmdError s).txLog = s.txLog := rfl
@[simp] theorem clearCmdError_inputs : (State.clearCmdError s).inputs = s.inputs := rfl

@[simp] theorem emit_runState (f : List Byte) : (State.emit s f).runState = s.runState := rfl
@[simp] theorem emit_run (f : List Byte) : (State.emit s f).run = s.run := rfl
@[simp] theorem emit_ie (f : List Byte) : (State.emit s f).ie = s.ie := rfl
@[simp] theorem emit_vok (f : List Byte) : (State.emit s f).vok = s.vok := rfl
@[simp] theorem emit_cmdErr (f : List Byte) : (State.emit s f).cmdErr = s.cmdErr := rfl
@[simp] theorem emit_rxOvf (f : List Byte) : (State.emit s f).rxOvf = s.rxOvf := rfl
@[simp] theorem emit_errCause (f : List Byte) : (State.emit s f).errCause = s.errCause := rfl
@[simp] theorem emit_crcAcc (f : List Byte) : (State.emit s f).crcAcc = s.crcAcc := rfl
@[simp] theorem emit_plen (f : List Byte) : (State.emit s f).plen = s.plen := rfl
@[simp] theorem emit_parsed (f : List Byte) : (State.emit s f).parsed = s.parsed := rfl
@[simp] theorem emit_elen (f : List Byte) : (State.emit s f).elen = s.elen := rfl
@[simp] theorem emit_tlen (f : List Byte) : (State.emit s f).tlen = s.tlen := rfl
@[simp] theorem emit_idleTo (f : List Byte) : (State.emit s f).idleTo = s.idleTo := rfl
@[simp] theorem emit_elapsed (f : List Byte) : (State.emit s f).elapsed = s.elapsed := rfl
@[simp] theorem emit_ferrCnt (f : List Byte) : (State.emit s f).ferrCnt = s.ferrCnt := rfl
@[simp] theorem emit_discCnt (f : List Byte) : (State.emit s f).discCnt = s.discCnt := rfl
@[simp] theorem emit_mem (f : List Byte) : (State.emit s f).mem = s.mem := rfl
@[simp] theorem emit_rxq (f : List Byte) : (State.emit s f).rxq = s.rxq := rfl
@[simp] theorem emit_answer (f : List Byte) : (State.emit s f).answer = s.answer := rfl
@[simp] theorem emit_txFrame (f : List Byte) : (State.emit s f).txFrame = some f := rfl
@[simp] theorem emit_txLog (f : List Byte) : (State.emit s f).txLog = s.txLog ++ [f] := rfl
@[simp] theorem emit_inputs (f : List Byte) : (State.emit s f).inputs = s.inputs := rfl

@[simp] theorem clearOutputs_runState : (State.clearOutputs s).runState = s.runState := rfl
@[simp] theorem clearOutputs_run : (State.clearOutputs s).run = s.run := rfl
@[simp] theorem clearOutputs_ie : (State.clearOutputs s).ie = s.ie := rfl
@[simp] theorem clearOutputs_vok : (State.clearOutputs s).vok = s.vok := rfl
@[simp] theorem clearOutputs_cmdErr : (State.clearOutputs s).cmdErr = s.cmdErr := rfl
@[simp] theorem clearOutputs_rxOvf : (State.clearOutputs s).rxOvf = s.rxOvf := rfl
@[simp] theorem clearOutputs_errCause : (State.clearOutputs s).errCause = s.errCause := rfl
@[simp] theorem clearOutputs_crcAcc : (State.clearOutputs s).crcAcc = s.crcAcc := rfl
@[simp] theorem clearOutputs_plen : (State.clearOutputs s).plen = s.plen := rfl
@[simp] theorem clearOutputs_parsed : (State.clearOutputs s).parsed = s.parsed := rfl
@[simp] theorem clearOutputs_elen : (State.clearOutputs s).elen = s.elen := rfl
@[simp] theorem clearOutputs_tlen : (State.clearOutputs s).tlen = s.tlen := rfl
@[simp] theorem clearOutputs_idleTo : (State.clearOutputs s).idleTo = s.idleTo := rfl
@[simp] theorem clearOutputs_elapsed : (State.clearOutputs s).elapsed = s.elapsed := rfl
@[simp] theorem clearOutputs_ferrCnt : (State.clearOutputs s).ferrCnt = s.ferrCnt := rfl
@[simp] theorem clearOutputs_discCnt : (State.clearOutputs s).discCnt = s.discCnt := rfl
@[simp] theorem clearOutputs_mem : (State.clearOutputs s).mem = s.mem := rfl
@[simp] theorem clearOutputs_rxq : (State.clearOutputs s).rxq = s.rxq := rfl
@[simp] theorem clearOutputs_answer : (State.clearOutputs s).answer = .silent := rfl
@[simp] theorem clearOutputs_txFrame : (State.clearOutputs s).txFrame = none := rfl
@[simp] theorem clearOutputs_txLog : (State.clearOutputs s).txLog = s.txLog := rfl
@[simp] theorem clearOutputs_inputs : (State.clearOutputs s).inputs = s.inputs := rfl

@[simp] theorem decodeParseBuffer_runState : (State.decodeParseBuffer s).runState = s.runState := rfl
@[simp] theorem decodeParseBuffer_run : (State.decodeParseBuffer s).run = s.run := rfl
@[simp] theorem decodeParseBuffer_ie : (State.decodeParseBuffer s).ie = s.ie := rfl
@[simp] theorem decodeParseBuffer_vok : (State.decodeParseBuffer s).vok = s.vok := rfl
@[simp] theorem decodeParseBuffer_cmdErr : (State.decodeParseBuffer s).cmdErr = s.cmdErr := rfl
@[simp] theorem decodeParseBuffer_rxOvf : (State.decodeParseBuffer s).rxOvf = s.rxOvf := rfl
@[simp] theorem decodeParseBuffer_errCause : (State.decodeParseBuffer s).errCause = s.errCause := rfl
@[simp] theorem decodeParseBuffer_crcAcc : (State.decodeParseBuffer s).crcAcc = s.crcAcc := rfl
@[simp] theorem decodeParseBuffer_plen : (State.decodeParseBuffer s).plen = s.plen := rfl
@[simp] theorem decodeParseBuffer_parsed : (State.decodeParseBuffer s).parsed = decodeFrame s.parseFrame := rfl
@[simp] theorem decodeParseBuffer_elen : (State.decodeParseBuffer s).elen = s.elen := rfl
@[simp] theorem decodeParseBuffer_tlen : (State.decodeParseBuffer s).tlen = s.tlen := rfl
@[simp] theorem decodeParseBuffer_idleTo : (State.decodeParseBuffer s).idleTo = s.idleTo := rfl
@[simp] theorem decodeParseBuffer_elapsed : (State.decodeParseBuffer s).elapsed = s.elapsed := rfl
@[simp] theorem decodeParseBuffer_ferrCnt : (State.decodeParseBuffer s).ferrCnt = s.ferrCnt := rfl
@[simp] theorem decodeParseBuffer_discCnt : (State.decodeParseBuffer s).discCnt = s.discCnt := rfl
@[simp] theorem decodeParseBuffer_mem : (State.decodeParseBuffer s).mem = s.mem := rfl
@[simp] theorem decodeParseBuffer_rxq : (State.decodeParseBuffer s).rxq = s.rxq := rfl
@[simp] theorem decodeParseBuffer_answer : (State.decodeParseBuffer s).answer = s.answer := rfl
@[simp] theorem decodeParseBuffer_txFrame : (State.decodeParseBuffer s).txFrame = s.txFrame := rfl
@[simp] theorem decodeParseBuffer_txLog : (State.decodeParseBuffer s).txLog = s.txLog := rfl
@[simp] theorem decodeParseBuffer_inputs : (State.decodeParseBuffer s).inputs = s.inputs := rfl

@[simp] theorem loadTx_runState (f : List Byte) : (State.loadTx s f).runState = s.runState := rfl
@[simp] theorem loadTx_run (f : List Byte) : (State.loadTx s f).run = s.run := rfl
@[simp] theorem loadTx_ie (f : List Byte) : (State.loadTx s f).ie = s.ie := rfl
@[simp] theorem loadTx_vok (f : List Byte) : (State.loadTx s f).vok = s.vok := rfl
@[simp] theorem loadTx_cmdErr (f : List Byte) : (State.loadTx s f).cmdErr = s.cmdErr := rfl
@[simp] theorem loadTx_rxOvf (f : List Byte) : (State.loadTx s f).rxOvf = s.rxOvf := rfl
@[simp] theorem loadTx_errCause (f : List Byte) : (State.loadTx s f).errCause = s.errCause := rfl
@[simp] theorem loadTx_crcAcc (f : List Byte) : (State.loadTx s f).crcAcc = s.crcAcc := rfl
@[simp] theorem loadTx_plen (f : List Byte) : (State.loadTx s f).plen = s.plen := rfl
@[simp] theorem loadTx_parsed (f : List Byte) : (State.loadTx s f).parsed = s.parsed := rfl
@[simp] theorem loadTx_elen (f : List Byte) : (State.loadTx s f).elen = s.elen := rfl
@[simp] theorem loadTx_tlen (f : List Byte) : (State.loadTx s f).tlen = BitVec.ofNat 9 f.length := rfl
@[simp] theorem loadTx_idleTo (f : List Byte) : (State.loadTx s f).idleTo = s.idleTo := rfl
@[simp] theorem loadTx_elapsed (f : List Byte) : (State.loadTx s f).elapsed = s.elapsed := rfl
@[simp] theorem loadTx_ferrCnt (f : List Byte) : (State.loadTx s f).ferrCnt = s.ferrCnt := rfl
@[simp] theorem loadTx_discCnt (f : List Byte) : (State.loadTx s f).discCnt = s.discCnt := rfl
@[simp] theorem loadTx_mem (f : List Byte) : (State.loadTx s f).mem = Memory.writeBytes s.mem tbufBase f := rfl
@[simp] theorem loadTx_rxq (f : List Byte) : (State.loadTx s f).rxq = s.rxq := rfl
@[simp] theorem loadTx_answer (f : List Byte) : (State.loadTx s f).answer = s.answer := rfl
@[simp] theorem loadTx_txFrame (f : List Byte) : (State.loadTx s f).txFrame = s.txFrame := rfl
@[simp] theorem loadTx_txLog (f : List Byte) : (State.loadTx s f).txLog = s.txLog := rfl
@[simp] theorem loadTx_inputs (f : List Byte) : (State.loadTx s f).inputs = s.inputs := rfl

@[simp] theorem takeFrame_runState : (takeFrame s).runState = s.runState := rfl
@[simp] theorem takeFrame_run : (takeFrame s).run = s.run := rfl
@[simp] theorem takeFrame_ie : (takeFrame s).ie = s.ie := rfl
@[simp] theorem takeFrame_vok : (takeFrame s).vok = s.vok := rfl
@[simp] theorem takeFrame_cmdErr : (takeFrame s).cmdErr = s.cmdErr := rfl
@[simp] theorem takeFrame_rxOvf : (takeFrame s).rxOvf = s.rxOvf := rfl
@[simp] theorem takeFrame_errCause : (takeFrame s).errCause = s.errCause := rfl
@[simp] theorem takeFrame_crcAcc : (takeFrame s).crcAcc = s.crcAcc := rfl
@[simp] theorem takeFrame_plen : (takeFrame s).plen = BitVec.ofNat 9 frameLen := rfl
@[simp] theorem takeFrame_parsed : (takeFrame s).parsed = s.parsed := rfl
@[simp] theorem takeFrame_elen : (takeFrame s).elen = s.elen := rfl
@[simp] theorem takeFrame_tlen : (takeFrame s).tlen = s.tlen := rfl
@[simp] theorem takeFrame_idleTo : (takeFrame s).idleTo = s.idleTo := rfl
@[simp] theorem takeFrame_elapsed : (takeFrame s).elapsed = 0 := rfl
@[simp] theorem takeFrame_ferrCnt : (takeFrame s).ferrCnt = s.ferrCnt := rfl
@[simp] theorem takeFrame_discCnt : (takeFrame s).discCnt = s.discCnt := rfl
@[simp] theorem takeFrame_mem : (takeFrame s).mem = Memory.writeBytes s.mem pbufBase (s.rxq.take frameLen) := rfl
@[simp] theorem takeFrame_rxq : (takeFrame s).rxq = s.rxq.drop frameLen := rfl
@[simp] theorem takeFrame_answer : (takeFrame s).answer = s.answer := rfl
@[simp] theorem takeFrame_txFrame : (takeFrame s).txFrame = s.txFrame := rfl
@[simp] theorem takeFrame_txLog : (takeFrame s).txLog = s.txLog := rfl
@[simp] theorem takeFrame_inputs : (takeFrame s).inputs = s.inputs := rfl

@[simp] theorem endDispatch_runState : (endDispatch s).runState = (if s.run then .polling else .stopped) := rfl
@[simp] theorem endDispatch_run : (endDispatch s).run = s.run := rfl
@[simp] theorem endDispatch_ie : (endDispatch s).ie = s.ie := rfl
@[simp] theorem endDispatch_vok : (endDispatch s).vok = s.vok := rfl
@[simp] theorem endDispatch_cmdErr : (endDispatch s).cmdErr = s.cmdErr := rfl
@[simp] theorem endDispatch_rxOvf : (endDispatch s).rxOvf = s.rxOvf := rfl
@[simp] theorem endDispatch_errCause : (endDispatch s).errCause = s.errCause := rfl
@[simp] theorem endDispatch_crcAcc : (endDispatch s).crcAcc = s.crcAcc := rfl
@[simp] theorem endDispatch_plen : (endDispatch s).plen = s.plen := rfl
@[simp] theorem endDispatch_parsed : (endDispatch s).parsed = s.parsed := rfl
@[simp] theorem endDispatch_elen : (endDispatch s).elen = s.elen := rfl
@[simp] theorem endDispatch_tlen : (endDispatch s).tlen = s.tlen := rfl
@[simp] theorem endDispatch_idleTo : (endDispatch s).idleTo = s.idleTo := rfl
@[simp] theorem endDispatch_elapsed : (endDispatch s).elapsed = s.elapsed := rfl
@[simp] theorem endDispatch_ferrCnt : (endDispatch s).ferrCnt = s.ferrCnt := rfl
@[simp] theorem endDispatch_discCnt : (endDispatch s).discCnt = s.discCnt := rfl
@[simp] theorem endDispatch_mem : (endDispatch s).mem = s.mem := rfl
@[simp] theorem endDispatch_rxq : (endDispatch s).rxq = s.rxq := rfl
@[simp] theorem endDispatch_answer : (endDispatch s).answer = s.answer := rfl
@[simp] theorem endDispatch_txFrame : (endDispatch s).txFrame = s.txFrame := rfl
@[simp] theorem endDispatch_txLog : (endDispatch s).txLog = s.txLog := rfl
@[simp] theorem endDispatch_inputs : (endDispatch s).inputs = s.inputs := rfl

@[simp] theorem beginCycle_runState : (State.beginCycle s).runState = s.runState := rfl
@[simp] theorem beginCycle_run : (State.beginCycle s).run = s.run := rfl
@[simp] theorem beginCycle_ie : (State.beginCycle s).ie = s.ie := rfl
@[simp] theorem beginCycle_vok : (State.beginCycle s).vok = s.vok := rfl
@[simp] theorem beginCycle_cmdErr : (State.beginCycle s).cmdErr = s.cmdErr := rfl
@[simp] theorem beginCycle_rxOvf : (State.beginCycle s).rxOvf = s.rxOvf := rfl
@[simp] theorem beginCycle_errCause : (State.beginCycle s).errCause = s.errCause := rfl
@[simp] theorem beginCycle_crcAcc : (State.beginCycle s).crcAcc = s.crcAcc := rfl
@[simp] theorem beginCycle_plen : (State.beginCycle s).plen = s.plen := rfl
@[simp] theorem beginCycle_parsed : (State.beginCycle s).parsed = s.parsed := rfl
@[simp] theorem beginCycle_elen : (State.beginCycle s).elen = s.elen := rfl
@[simp] theorem beginCycle_tlen : (State.beginCycle s).tlen = s.tlen := rfl
@[simp] theorem beginCycle_idleTo : (State.beginCycle s).idleTo = s.idleTo := rfl
@[simp] theorem beginCycle_elapsed : (State.beginCycle s).elapsed = s.elapsed := rfl
@[simp] theorem beginCycle_ferrCnt : (State.beginCycle s).ferrCnt = s.ferrCnt := rfl
@[simp] theorem beginCycle_discCnt : (State.beginCycle s).discCnt = s.discCnt := rfl
@[simp] theorem beginCycle_mem : (State.beginCycle s).mem = s.mem := rfl
@[simp] theorem beginCycle_rxq : (State.beginCycle s).rxq = s.rxq := rfl
@[simp] theorem beginCycle_answer : (State.beginCycle s).answer = .silent := rfl
@[simp] theorem beginCycle_txFrame : (State.beginCycle s).txFrame = none := rfl
@[simp] theorem beginCycle_txLog : (State.beginCycle s).txLog = s.txLog := rfl
@[simp] theorem beginCycle_inputs : (State.beginCycle s).inputs = s.inputs.tail := rfl

@[simp] theorem presentCommand_runState (w : Word) : (State.presentCommand s w).runState = s.runState := rfl
@[simp] theorem presentCommand_run (w : Word) : (State.presentCommand s w).run = s.run := rfl
@[simp] theorem presentCommand_ie (w : Word) : (State.presentCommand s w).ie = s.ie := rfl
@[simp] theorem presentCommand_vok (w : Word) : (State.presentCommand s w).vok = s.vok := rfl
@[simp] theorem presentCommand_cmdErr (w : Word) : (State.presentCommand s w).cmdErr = s.cmdErr := rfl
@[simp] theorem presentCommand_rxOvf (w : Word) : (State.presentCommand s w).rxOvf = s.rxOvf := rfl
@[simp] theorem presentCommand_errCause (w : Word) : (State.presentCommand s w).errCause = s.errCause := rfl
@[simp] theorem presentCommand_crcAcc (w : Word) : (State.presentCommand s w).crcAcc = s.crcAcc := rfl
@[simp] theorem presentCommand_plen (w : Word) : (State.presentCommand s w).plen = s.plen := rfl
@[simp] theorem presentCommand_parsed (w : Word) : (State.presentCommand s w).parsed = s.parsed := rfl
@[simp] theorem presentCommand_elen (w : Word) : (State.presentCommand s w).elen = s.elen := rfl
@[simp] theorem presentCommand_tlen (w : Word) : (State.presentCommand s w).tlen = s.tlen := rfl
@[simp] theorem presentCommand_idleTo (w : Word) : (State.presentCommand s w).idleTo = s.idleTo := rfl
@[simp] theorem presentCommand_elapsed (w : Word) : (State.presentCommand s w).elapsed = s.elapsed := rfl
@[simp] theorem presentCommand_ferrCnt (w : Word) : (State.presentCommand s w).ferrCnt = s.ferrCnt := rfl
@[simp] theorem presentCommand_discCnt (w : Word) : (State.presentCommand s w).discCnt = s.discCnt := rfl
@[simp] theorem presentCommand_mem (w : Word) : (State.presentCommand s w).mem = s.mem := rfl
@[simp] theorem presentCommand_rxq (w : Word) : (State.presentCommand s w).rxq = s.rxq := rfl
@[simp] theorem presentCommand_answer (w : Word) : (State.presentCommand s w).answer = s.answer := rfl
@[simp] theorem presentCommand_txFrame (w : Word) : (State.presentCommand s w).txFrame = s.txFrame := rfl
@[simp] theorem presentCommand_txLog (w : Word) : (State.presentCommand s w).txLog = s.txLog := rfl
@[simp] theorem presentCommand_inputs (w : Word) : (State.presentCommand s w).inputs = commandInput w :: s.inputs := rfl

end Sys2Proof.Machine
end

