-- ==== Sys2Proof/Laws/Frame.lean ====
section
/-! SUPPORT. The fields each phase of the cycle and each host write leaves alone: one lemma per field, so that no later proof opens the phase. -/

namespace Sys2Proof.Machine

variable (s : State)

@[simp] theorem rxPush_runState (b : Byte) : (rxPush b s).runState = s.runState := by
  unfold rxPush; split <;> rfl
@[simp] theorem rxPush_run (b : Byte) : (rxPush b s).run = s.run := by
  unfold rxPush; split <;> rfl
@[simp] theorem rxPush_ie (b : Byte) : (rxPush b s).ie = s.ie := by
  unfold rxPush; split <;> rfl
@[simp] theorem rxPush_vok (b : Byte) : (rxPush b s).vok = s.vok := by
  unfold rxPush; split <;> rfl
@[simp] theorem rxPush_cmdErr (b : Byte) : (rxPush b s).cmdErr = s.cmdErr := by
  unfold rxPush; split <;> rfl
@[simp] theorem rxPush_errCause (b : Byte) : (rxPush b s).errCause = s.errCause := by
  unfold rxPush; split <;> rfl
@[simp] theorem rxPush_crcAcc (b : Byte) : (rxPush b s).crcAcc = s.crcAcc := by
  unfold rxPush; split <;> rfl
@[simp] theorem rxPush_plen (b : Byte) : (rxPush b s).plen = s.plen := by
  unfold rxPush; split <;> rfl
@[simp] theorem rxPush_parsed (b : Byte) : (rxPush b s).parsed = s.parsed := by
  unfold rxPush; split <;> rfl
@[simp] theorem rxPush_elen (b : Byte) : (rxPush b s).elen = s.elen := by
  unfold rxPush; split <;> rfl
@[simp] theorem rxPush_tlen (b : Byte) : (rxPush b s).tlen = s.tlen := by
  unfold rxPush; split <;> rfl
@[simp] theorem rxPush_idleTo (b : Byte) : (rxPush b s).idleTo = s.idleTo := by
  unfold rxPush; split <;> rfl
@[simp] theorem rxPush_elapsed (b : Byte) : (rxPush b s).elapsed = s.elapsed := by
  unfold rxPush; split <;> rfl
@[simp] theorem rxPush_ferrCnt (b : Byte) : (rxPush b s).ferrCnt = s.ferrCnt := by
  unfold rxPush; split <;> rfl
@[simp] theorem rxPush_discCnt (b : Byte) : (rxPush b s).discCnt = s.discCnt := by
  unfold rxPush; split <;> rfl
@[simp] theorem rxPush_mem (b : Byte) : (rxPush b s).mem = s.mem := by
  unfold rxPush; split <;> rfl
@[simp] theorem rxPush_answer (b : Byte) : (rxPush b s).answer = s.answer := by
  unfold rxPush; split <;> rfl
@[simp] theorem rxPush_txFrame (b : Byte) : (rxPush b s).txFrame = s.txFrame := by
  unfold rxPush; split <;> rfl
@[simp] theorem rxPush_txLog (b : Byte) : (rxPush b s).txLog = s.txLog := by
  unfold rxPush; split <;> rfl
@[simp] theorem rxPush_inputs (b : Byte) : (rxPush b s).inputs = s.inputs := by
  unfold rxPush; split <;> rfl

@[simp] theorem linePhase_runState (rx : Option Byte) : (linePhase rx s).runState = s.runState := by
  cases rx <;> simp [linePhase]
@[simp] theorem linePhase_run (rx : Option Byte) : (linePhase rx s).run = s.run := by
  cases rx <;> simp [linePhase]
@[simp] theorem linePhase_ie (rx : Option Byte) : (linePhase rx s).ie = s.ie := by
  cases rx <;> simp [linePhase]
@[simp] theorem linePhase_vok (rx : Option Byte) : (linePhase rx s).vok = s.vok := by
  cases rx <;> simp [linePhase]
@[simp] theorem linePhase_cmdErr (rx : Option Byte) : (linePhase rx s).cmdErr = s.cmdErr := by
  cases rx <;> simp [linePhase]
@[simp] theorem linePhase_errCause (rx : Option Byte) : (linePhase rx s).errCause = s.errCause := by
  cases rx <;> simp [linePhase]
@[simp] theorem linePhase_crcAcc (rx : Option Byte) : (linePhase rx s).crcAcc = s.crcAcc := by
  cases rx <;> simp [linePhase]
@[simp] theorem linePhase_plen (rx : Option Byte) : (linePhase rx s).plen = s.plen := by
  cases rx <;> simp [linePhase]
@[simp] theorem linePhase_parsed (rx : Option Byte) : (linePhase rx s).parsed = s.parsed := by
  cases rx <;> simp [linePhase]
@[simp] theorem linePhase_elen (rx : Option Byte) : (linePhase rx s).elen = s.elen := by
  cases rx <;> simp [linePhase]
@[simp] theorem linePhase_tlen (rx : Option Byte) : (linePhase rx s).tlen = s.tlen := by
  cases rx <;> simp [linePhase]
@[simp] theorem linePhase_idleTo (rx : Option Byte) : (linePhase rx s).idleTo = s.idleTo := by
  cases rx <;> simp [linePhase]
@[simp] theorem linePhase_elapsed (rx : Option Byte) : (linePhase rx s).elapsed = s.elapsed := by
  cases rx <;> simp [linePhase]
@[simp] theorem linePhase_ferrCnt (rx : Option Byte) : (linePhase rx s).ferrCnt = s.ferrCnt := by
  cases rx <;> simp [linePhase]
@[simp] theorem linePhase_discCnt (rx : Option Byte) : (linePhase rx s).discCnt = s.discCnt := by
  cases rx <;> simp [linePhase]
@[simp] theorem linePhase_mem (rx : Option Byte) : (linePhase rx s).mem = s.mem := by
  cases rx <;> simp [linePhase]
@[simp] theorem linePhase_answer (rx : Option Byte) : (linePhase rx s).answer = s.answer := by
  cases rx <;> simp [linePhase]
@[simp] theorem linePhase_txFrame (rx : Option Byte) : (linePhase rx s).txFrame = s.txFrame := by
  cases rx <;> simp [linePhase]
@[simp] theorem linePhase_txLog (rx : Option Byte) : (linePhase rx s).txLog = s.txLog := by
  cases rx <;> simp [linePhase]
@[simp] theorem linePhase_inputs (rx : Option Byte) : (linePhase rx s).inputs = s.inputs := by
  cases rx <;> simp [linePhase]

@[simp] theorem tickStep_runState : (tickStep s).runState = s.runState := by
  unfold tickStep; split <;> rfl
@[simp] theorem tickStep_run : (tickStep s).run = s.run := by
  unfold tickStep; split <;> rfl
@[simp] theorem tickStep_ie : (tickStep s).ie = s.ie := by
  unfold tickStep; split <;> rfl
@[simp] theorem tickStep_vok : (tickStep s).vok = s.vok := by
  unfold tickStep; split <;> rfl
@[simp] theorem tickStep_cmdErr : (tickStep s).cmdErr = s.cmdErr := by
  unfold tickStep; split <;> rfl
@[simp] theorem tickStep_rxOvf : (tickStep s).rxOvf = s.rxOvf := by
  unfold tickStep; split <;> rfl
@[simp] theorem tickStep_errCause : (tickStep s).errCause = s.errCause := by
  unfold tickStep; split <;> rfl
@[simp] theorem tickStep_crcAcc : (tickStep s).crcAcc = s.crcAcc := by
  unfold tickStep; split <;> rfl
@[simp] theorem tickStep_plen : (tickStep s).plen = s.plen := by
  unfold tickStep; split <;> rfl
@[simp] theorem tickStep_parsed : (tickStep s).parsed = s.parsed := by
  unfold tickStep; split <;> rfl
@[simp] theorem tickStep_elen : (tickStep s).elen = s.elen := by
  unfold tickStep; split <;> rfl
@[simp] theorem tickStep_tlen : (tickStep s).tlen = s.tlen := by
  unfold tickStep; split <;> rfl
@[simp] theorem tickStep_idleTo : (tickStep s).idleTo = s.idleTo := by
  unfold tickStep; split <;> rfl
@[simp] theorem tickStep_ferrCnt : (tickStep s).ferrCnt = s.ferrCnt := by
  unfold tickStep; split <;> rfl
@[simp] theorem tickStep_discCnt : (tickStep s).discCnt = s.discCnt := by
  unfold tickStep; split <;> rfl
@[simp] theorem tickStep_mem : (tickStep s).mem = s.mem := by
  unfold tickStep; split <;> rfl
@[simp] theorem tickStep_rxq : (tickStep s).rxq = s.rxq := by
  unfold tickStep; split <;> rfl
@[simp] theorem tickStep_answer : (tickStep s).answer = s.answer := by
  unfold tickStep; split <;> rfl
@[simp] theorem tickStep_txFrame : (tickStep s).txFrame = s.txFrame := by
  unfold tickStep; split <;> rfl
@[simp] theorem tickStep_txLog : (tickStep s).txLog = s.txLog := by
  unfold tickStep; split <;> rfl
@[simp] theorem tickStep_inputs : (tickStep s).inputs = s.inputs := by
  unfold tickStep; split <;> rfl

@[simp] theorem tickPhase_runState (tick : Bool) : (tickPhase tick s).runState = s.runState := by
  cases tick <;> simp [tickPhase]
@[simp] theorem tickPhase_run (tick : Bool) : (tickPhase tick s).run = s.run := by
  cases tick <;> simp [tickPhase]
@[simp] theorem tickPhase_ie (tick : Bool) : (tickPhase tick s).ie = s.ie := by
  cases tick <;> simp [tickPhase]
@[simp] theorem tickPhase_vok (tick : Bool) : (tickPhase tick s).vok = s.vok := by
  cases tick <;> simp [tickPhase]
@[simp] theorem tickPhase_cmdErr (tick : Bool) : (tickPhase tick s).cmdErr = s.cmdErr := by
  cases tick <;> simp [tickPhase]
@[simp] theorem tickPhase_rxOvf (tick : Bool) : (tickPhase tick s).rxOvf = s.rxOvf := by
  cases tick <;> simp [tickPhase]
@[simp] theorem tickPhase_errCause (tick : Bool) : (tickPhase tick s).errCause = s.errCause := by
  cases tick <;> simp [tickPhase]
@[simp] theorem tickPhase_crcAcc (tick : Bool) : (tickPhase tick s).crcAcc = s.crcAcc := by
  cases tick <;> simp [tickPhase]
@[simp] theorem tickPhase_plen (tick : Bool) : (tickPhase tick s).plen = s.plen := by
  cases tick <;> simp [tickPhase]
@[simp] theorem tickPhase_parsed (tick : Bool) : (tickPhase tick s).parsed = s.parsed := by
  cases tick <;> simp [tickPhase]
@[simp] theorem tickPhase_elen (tick : Bool) : (tickPhase tick s).elen = s.elen := by
  cases tick <;> simp [tickPhase]
@[simp] theorem tickPhase_tlen (tick : Bool) : (tickPhase tick s).tlen = s.tlen := by
  cases tick <;> simp [tickPhase]
@[simp] theorem tickPhase_idleTo (tick : Bool) : (tickPhase tick s).idleTo = s.idleTo := by
  cases tick <;> simp [tickPhase]
@[simp] theorem tickPhase_ferrCnt (tick : Bool) : (tickPhase tick s).ferrCnt = s.ferrCnt := by
  cases tick <;> simp [tickPhase]
@[simp] theorem tickPhase_discCnt (tick : Bool) : (tickPhase tick s).discCnt = s.discCnt := by
  cases tick <;> simp [tickPhase]
@[simp] theorem tickPhase_mem (tick : Bool) : (tickPhase tick s).mem = s.mem := by
  cases tick <;> simp [tickPhase]
@[simp] theorem tickPhase_rxq (tick : Bool) : (tickPhase tick s).rxq = s.rxq := by
  cases tick <;> simp [tickPhase]
@[simp] theorem tickPhase_answer (tick : Bool) : (tickPhase tick s).answer = s.answer := by
  cases tick <;> simp [tickPhase]
@[simp] theorem tickPhase_txFrame (tick : Bool) : (tickPhase tick s).txFrame = s.txFrame := by
  cases tick <;> simp [tickPhase]
@[simp] theorem tickPhase_txLog (tick : Bool) : (tickPhase tick s).txLog = s.txLog := by
  cases tick <;> simp [tickPhase]
@[simp] theorem tickPhase_inputs (tick : Bool) : (tickPhase tick s).inputs = s.inputs := by
  cases tick <;> simp [tickPhase]

@[simp] theorem settleCapture_run : (settleCapture s).run = s.run := by
  unfold settleCapture; split <;> rfl
@[simp] theorem settleCapture_ie : (settleCapture s).ie = s.ie := by
  unfold settleCapture; split <;> rfl
@[simp] theorem settleCapture_vok : (settleCapture s).vok = s.vok := by
  unfold settleCapture; split <;> rfl
@[simp] theorem settleCapture_cmdErr : (settleCapture s).cmdErr = s.cmdErr := by
  unfold settleCapture; split <;> rfl
@[simp] theorem settleCapture_rxOvf : (settleCapture s).rxOvf = s.rxOvf := by
  unfold settleCapture; split <;> rfl
@[simp] theorem settleCapture_errCause : (settleCapture s).errCause = s.errCause := by
  unfold settleCapture; split <;> rfl
@[simp] theorem settleCapture_crcAcc : (settleCapture s).crcAcc = s.crcAcc := by
  unfold settleCapture; split <;> rfl
@[simp] theorem settleCapture_plen : (settleCapture s).plen = s.plen := by
  unfold settleCapture; split <;> rfl
@[simp] theorem settleCapture_parsed : (settleCapture s).parsed = s.parsed := by
  unfold settleCapture; split <;> rfl
@[simp] theorem settleCapture_elen : (settleCapture s).elen = s.elen := by
  unfold settleCapture; split <;> rfl
@[simp] theorem settleCapture_tlen : (settleCapture s).tlen = s.tlen := by
  unfold settleCapture; split <;> rfl
@[simp] theorem settleCapture_idleTo : (settleCapture s).idleTo = s.idleTo := by
  unfold settleCapture; split <;> rfl
@[simp] theorem settleCapture_elapsed : (settleCapture s).elapsed = s.elapsed := by
  unfold settleCapture; split <;> rfl
@[simp] theorem settleCapture_discCnt : (settleCapture s).discCnt = s.discCnt := by
  unfold settleCapture; split <;> rfl
@[simp] theorem settleCapture_mem : (settleCapture s).mem = s.mem := by
  unfold settleCapture; split <;> rfl
@[simp] theorem settleCapture_rxq : (settleCapture s).rxq = s.rxq := by
  unfold settleCapture; split <;> rfl
@[simp] theorem settleCapture_answer : (settleCapture s).answer = s.answer := by
  unfold settleCapture; split <;> rfl
@[simp] theorem settleCapture_txFrame : (settleCapture s).txFrame = s.txFrame := by
  unfold settleCapture; split <;> rfl
@[simp] theorem settleCapture_txLog : (settleCapture s).txLog = s.txLog := by
  unfold settleCapture; split <;> rfl
@[simp] theorem settleCapture_inputs : (settleCapture s).inputs = s.inputs := by
  unfold settleCapture; split <;> rfl

@[simp] theorem capture_run : (capture s).run = s.run := by
  simp [capture]
@[simp] theorem capture_ie : (capture s).ie = s.ie := by
  simp [capture]
@[simp] theorem capture_vok : (capture s).vok = s.vok := by
  simp [capture]
@[simp] theorem capture_cmdErr : (capture s).cmdErr = s.cmdErr := by
  simp [capture]
@[simp] theorem capture_rxOvf : (capture s).rxOvf = s.rxOvf := by
  simp [capture]
@[simp] theorem capture_errCause : (capture s).errCause = s.errCause := by
  simp [capture]
@[simp] theorem capture_crcAcc : (capture s).crcAcc = s.crcAcc := by
  simp [capture]
@[simp] theorem capture_elen : (capture s).elen = s.elen := by
  simp [capture]
@[simp] theorem capture_tlen : (capture s).tlen = s.tlen := by
  simp [capture]
@[simp] theorem capture_idleTo : (capture s).idleTo = s.idleTo := by
  simp [capture]
@[simp] theorem capture_discCnt : (capture s).discCnt = s.discCnt := by
  simp [capture]
@[simp] theorem capture_answer : (capture s).answer = s.answer := by
  simp [capture]
@[simp] theorem capture_txFrame : (capture s).txFrame = s.txFrame := by
  simp [capture]
@[simp] theorem capture_txLog : (capture s).txLog = s.txLog := by
  simp [capture]
@[simp] theorem capture_inputs : (capture s).inputs = s.inputs := by
  simp [capture]

@[simp] theorem flush_runState : (flush s).runState = s.runState := by
  unfold flush; dsimp only; split <;> rfl
@[simp] theorem flush_run : (flush s).run = s.run := by
  unfold flush; dsimp only; split <;> rfl
@[simp] theorem flush_ie : (flush s).ie = s.ie := by
  unfold flush; dsimp only; split <;> rfl
@[simp] theorem flush_vok : (flush s).vok = s.vok := by
  unfold flush; dsimp only; split <;> rfl
@[simp] theorem flush_cmdErr : (flush s).cmdErr = s.cmdErr := by
  unfold flush; dsimp only; split <;> rfl
@[simp] theorem flush_rxOvf : (flush s).rxOvf = s.rxOvf := by
  unfold flush; dsimp only; split <;> rfl
@[simp] theorem flush_errCause : (flush s).errCause = s.errCause := by
  unfold flush; dsimp only; split <;> rfl
@[simp] theorem flush_crcAcc : (flush s).crcAcc = s.crcAcc := by
  unfold flush; dsimp only; split <;> rfl
@[simp] theorem flush_plen : (flush s).plen = s.plen := by
  unfold flush; dsimp only; split <;> rfl
@[simp] theorem flush_parsed : (flush s).parsed = s.parsed := by
  unfold flush; dsimp only; split <;> rfl
@[simp] theorem flush_elen : (flush s).elen = s.elen := by
  unfold flush; dsimp only; split <;> rfl
@[simp] theorem flush_tlen : (flush s).tlen = s.tlen := by
  unfold flush; dsimp only; split <;> rfl
@[simp] theorem flush_idleTo : (flush s).idleTo = s.idleTo := by
  unfold flush; dsimp only; split <;> rfl
@[simp] theorem flush_ferrCnt : (flush s).ferrCnt = s.ferrCnt := by
  unfold flush; dsimp only; split <;> rfl
@[simp] theorem flush_mem : (flush s).mem = s.mem := by
  unfold flush; dsimp only; split <;> rfl
@[simp] theorem flush_answer : (flush s).answer = s.answer := by
  unfold flush; dsimp only; split <;> rfl
@[simp] theorem flush_txFrame : (flush s).txFrame = s.txFrame := by
  unfold flush; dsimp only; split <;> rfl
@[simp] theorem flush_txLog : (flush s).txLog = s.txLog := by
  unfold flush; dsimp only; split <;> rfl
@[simp] theorem flush_inputs : (flush s).inputs = s.inputs := by
  unfold flush; dsimp only; split <;> rfl

@[simp] theorem loopStep_run : (loopStep s).run = s.run := by
  unfold loopStep; split; · simp
  · split <;> simp
@[simp] theorem loopStep_ie : (loopStep s).ie = s.ie := by
  unfold loopStep; split; · simp
  · split <;> simp
@[simp] theorem loopStep_vok : (loopStep s).vok = s.vok := by
  unfold loopStep; split; · simp
  · split <;> simp
@[simp] theorem loopStep_cmdErr : (loopStep s).cmdErr = s.cmdErr := by
  unfold loopStep; split; · simp
  · split <;> simp
@[simp] theorem loopStep_rxOvf : (loopStep s).rxOvf = s.rxOvf := by
  unfold loopStep; split; · simp
  · split <;> simp
@[simp] theorem loopStep_errCause : (loopStep s).errCause = s.errCause := by
  unfold loopStep; split; · simp
  · split <;> simp
@[simp] theorem loopStep_crcAcc : (loopStep s).crcAcc = s.crcAcc := by
  unfold loopStep; split; · simp
  · split <;> simp
@[simp] theorem loopStep_elen : (loopStep s).elen = s.elen := by
  unfold loopStep; split; · simp
  · split <;> simp
@[simp] theorem loopStep_tlen : (loopStep s).tlen = s.tlen := by
  unfold loopStep; split; · simp
  · split <;> simp
@[simp] theorem loopStep_idleTo : (loopStep s).idleTo = s.idleTo := by
  unfold loopStep; split; · simp
  · split <;> simp
@[simp] theorem loopStep_answer : (loopStep s).answer = s.answer := by
  unfold loopStep; split; · simp
  · split <;> simp
@[simp] theorem loopStep_txFrame : (loopStep s).txFrame = s.txFrame := by
  unfold loopStep; split; · simp
  · split <;> simp
@[simp] theorem loopStep_txLog : (loopStep s).txLog = s.txLog := by
  unfold loopStep; split; · simp
  · split <;> simp
@[simp] theorem loopStep_inputs : (loopStep s).inputs = s.inputs := by
  unfold loopStep; split; · simp
  · split <;> simp

@[simp] theorem loopPhase_run : (loopPhase s).run = s.run := by
  unfold loopPhase; split <;> simp
@[simp] theorem loopPhase_ie : (loopPhase s).ie = s.ie := by
  unfold loopPhase; split <;> simp
@[simp] theorem loopPhase_vok : (loopPhase s).vok = s.vok := by
  unfold loopPhase; split <;> simp
@[simp] theorem loopPhase_cmdErr : (loopPhase s).cmdErr = s.cmdErr := by
  unfold loopPhase; split <;> simp
@[simp] theorem loopPhase_rxOvf : (loopPhase s).rxOvf = s.rxOvf := by
  unfold loopPhase; split <;> simp
@[simp] theorem loopPhase_errCause : (loopPhase s).errCause = s.errCause := by
  unfold loopPhase; split <;> simp
@[simp] theorem loopPhase_crcAcc : (loopPhase s).crcAcc = s.crcAcc := by
  unfold loopPhase; split <;> simp
@[simp] theorem loopPhase_elen : (loopPhase s).elen = s.elen := by
  unfold loopPhase; split <;> simp
@[simp] theorem loopPhase_tlen : (loopPhase s).tlen = s.tlen := by
  unfold loopPhase; split <;> simp
@[simp] theorem loopPhase_idleTo : (loopPhase s).idleTo = s.idleTo := by
  unfold loopPhase; split <;> simp
@[simp] theorem loopPhase_answer : (loopPhase s).answer = s.answer := by
  unfold loopPhase; split <;> simp
@[simp] theorem loopPhase_txFrame : (loopPhase s).txFrame = s.txFrame := by
  unfold loopPhase; split <;> simp
@[simp] theorem loopPhase_txLog : (loopPhase s).txLog = s.txLog := by
  unfold loopPhase; split <;> simp
@[simp] theorem loopPhase_inputs : (loopPhase s).inputs = s.inputs := by
  unfold loopPhase; split <;> simp

@[simp] theorem laterPhases_run (rx : Option Byte) (tick : Bool) : (laterPhases rx tick s).run = s.run := by
  simp [laterPhases]
@[simp] theorem laterPhases_ie (rx : Option Byte) (tick : Bool) : (laterPhases rx tick s).ie = s.ie := by
  simp [laterPhases]
@[simp] theorem laterPhases_vok (rx : Option Byte) (tick : Bool) : (laterPhases rx tick s).vok = s.vok := by
  simp [laterPhases]
@[simp] theorem laterPhases_cmdErr (rx : Option Byte) (tick : Bool) : (laterPhases rx tick s).cmdErr = s.cmdErr := by
  simp [laterPhases]
@[simp] theorem laterPhases_errCause (rx : Option Byte) (tick : Bool) : (laterPhases rx tick s).errCause = s.errCause := by
  simp [laterPhases]
@[simp] theorem laterPhases_crcAcc (rx : Option Byte) (tick : Bool) : (laterPhases rx tick s).crcAcc = s.crcAcc := by
  simp [laterPhases]
@[simp] theorem laterPhases_elen (rx : Option Byte) (tick : Bool) : (laterPhases rx tick s).elen = s.elen := by
  simp [laterPhases]
@[simp] theorem laterPhases_tlen (rx : Option Byte) (tick : Bool) : (laterPhases rx tick s).tlen = s.tlen := by
  simp [laterPhases]
@[simp] theorem laterPhases_idleTo (rx : Option Byte) (tick : Bool) : (laterPhases rx tick s).idleTo = s.idleTo := by
  simp [laterPhases]
@[simp] theorem laterPhases_answer (rx : Option Byte) (tick : Bool) : (laterPhases rx tick s).answer = s.answer := by
  simp [laterPhases]
@[simp] theorem laterPhases_txFrame (rx : Option Byte) (tick : Bool) : (laterPhases rx tick s).txFrame = s.txFrame := by
  simp [laterPhases]
@[simp] theorem laterPhases_txLog (rx : Option Byte) (tick : Bool) : (laterPhases rx tick s).txLog = s.txLog := by
  simp [laterPhases]
@[simp] theorem laterPhases_inputs (rx : Option Byte) (tick : Bool) : (laterPhases rx tick s).inputs = s.inputs := by
  simp [laterPhases]

@[simp] theorem writeCtrl_vok (a b : Bool) : (writeCtrl a b s).vok = s.vok := by
  unfold writeCtrl; dsimp only; split <;> rfl
@[simp] theorem writeCtrl_cmdErr (a b : Bool) : (writeCtrl a b s).cmdErr = s.cmdErr := by
  unfold writeCtrl; dsimp only; split <;> rfl
@[simp] theorem writeCtrl_rxOvf (a b : Bool) : (writeCtrl a b s).rxOvf = s.rxOvf := by
  unfold writeCtrl; dsimp only; split <;> rfl
@[simp] theorem writeCtrl_errCause (a b : Bool) : (writeCtrl a b s).errCause = s.errCause := by
  unfold writeCtrl; dsimp only; split <;> rfl
@[simp] theorem writeCtrl_crcAcc (a b : Bool) : (writeCtrl a b s).crcAcc = s.crcAcc := by
  unfold writeCtrl; dsimp only; split <;> rfl
@[simp] theorem writeCtrl_plen (a b : Bool) : (writeCtrl a b s).plen = s.plen := by
  unfold writeCtrl; dsimp only; split <;> rfl
@[simp] theorem writeCtrl_parsed (a b : Bool) : (writeCtrl a b s).parsed = s.parsed := by
  unfold writeCtrl; dsimp only; split <;> rfl
@[simp] theorem writeCtrl_elen (a b : Bool) : (writeCtrl a b s).elen = s.elen := by
  unfold writeCtrl; dsimp only; split <;> rfl
@[simp] theorem writeCtrl_tlen (a b : Bool) : (writeCtrl a b s).tlen = s.tlen := by
  unfold writeCtrl; dsimp only; split <;> rfl
@[simp] theorem writeCtrl_idleTo (a b : Bool) : (writeCtrl a b s).idleTo = s.idleTo := by
  unfold writeCtrl; dsimp only; split <;> rfl
@[simp] theorem writeCtrl_ferrCnt (a b : Bool) : (writeCtrl a b s).ferrCnt = s.ferrCnt := by
  unfold writeCtrl; dsimp only; split <;> rfl
@[simp] theorem writeCtrl_discCnt (a b : Bool) : (writeCtrl a b s).discCnt = s.discCnt := by
  unfold writeCtrl; dsimp only; split <;> rfl
@[simp] theorem writeCtrl_mem (a b : Bool) : (writeCtrl a b s).mem = s.mem := by
  unfold writeCtrl; dsimp only; split <;> rfl
@[simp] theorem writeCtrl_rxq (a b : Bool) : (writeCtrl a b s).rxq = s.rxq := by
  unfold writeCtrl; dsimp only; split <;> rfl
@[simp] theorem writeCtrl_answer (a b : Bool) : (writeCtrl a b s).answer = s.answer := by
  unfold writeCtrl; dsimp only; split <;> rfl
@[simp] theorem writeCtrl_txFrame (a b : Bool) : (writeCtrl a b s).txFrame = s.txFrame := by
  unfold writeCtrl; dsimp only; split <;> rfl
@[simp] theorem writeCtrl_txLog (a b : Bool) : (writeCtrl a b s).txLog = s.txLog := by
  unfold writeCtrl; dsimp only; split <;> rfl
@[simp] theorem writeCtrl_inputs (a b : Bool) : (writeCtrl a b s).inputs = s.inputs := by
  unfold writeCtrl; dsimp only; split <;> rfl

@[simp] theorem writeStatus_runState (v : Word) : (writeStatus v s).runState = s.runState := by
  unfold writeStatus; dsimp only; split <;> split <;> rfl
@[simp] theorem writeStatus_run (v : Word) : (writeStatus v s).run = s.run := by
  unfold writeStatus; dsimp only; split <;> split <;> rfl
@[simp] theorem writeStatus_ie (v : Word) : (writeStatus v s).ie = s.ie := by
  unfold writeStatus; dsimp only; split <;> split <;> rfl
@[simp] theorem writeStatus_vok (v : Word) : (writeStatus v s).vok = s.vok := by
  unfold writeStatus; dsimp only; split <;> split <;> rfl
@[simp] theorem writeStatus_crcAcc (v : Word) : (writeStatus v s).crcAcc = s.crcAcc := by
  unfold writeStatus; dsimp only; split <;> split <;> rfl
@[simp] theorem writeStatus_plen (v : Word) : (writeStatus v s).plen = s.plen := by
  unfold writeStatus; dsimp only; split <;> split <;> rfl
@[simp] theorem writeStatus_parsed (v : Word) : (writeStatus v s).parsed = s.parsed := by
  unfold writeStatus; dsimp only; split <;> split <;> rfl
@[simp] theorem writeStatus_elen (v : Word) : (writeStatus v s).elen = s.elen := by
  unfold writeStatus; dsimp only; split <;> split <;> rfl
@[simp] theorem writeStatus_tlen (v : Word) : (writeStatus v s).tlen = s.tlen := by
  unfold writeStatus; dsimp only; split <;> split <;> rfl
@[simp] theorem writeStatus_idleTo (v : Word) : (writeStatus v s).idleTo = s.idleTo := by
  unfold writeStatus; dsimp only; split <;> split <;> rfl
@[simp] theorem writeStatus_elapsed (v : Word) : (writeStatus v s).elapsed = s.elapsed := by
  unfold writeStatus; dsimp only; split <;> split <;> rfl
@[simp] theorem writeStatus_ferrCnt (v : Word) : (writeStatus v s).ferrCnt = s.ferrCnt := by
  unfold writeStatus; dsimp only; split <;> split <;> rfl
@[simp] theorem writeStatus_discCnt (v : Word) : (writeStatus v s).discCnt = s.discCnt := by
  unfold writeStatus; dsimp only; split <;> split <;> rfl
@[simp] theorem writeStatus_mem (v : Word) : (writeStatus v s).mem = s.mem := by
  unfold writeStatus; dsimp only; split <;> split <;> rfl
@[simp] theorem writeStatus_rxq (v : Word) : (writeStatus v s).rxq = s.rxq := by
  unfold writeStatus; dsimp only; split <;> split <;> rfl
@[simp] theorem writeStatus_answer (v : Word) : (writeStatus v s).answer = s.answer := by
  unfold writeStatus; dsimp only; split <;> split <;> rfl
@[simp] theorem writeStatus_txFrame (v : Word) : (writeStatus v s).txFrame = s.txFrame := by
  unfold writeStatus; dsimp only; split <;> split <;> rfl
@[simp] theorem writeStatus_txLog (v : Word) : (writeStatus v s).txLog = s.txLog := by
  unfold writeStatus; dsimp only; split <;> split <;> rfl
@[simp] theorem writeStatus_inputs (v : Word) : (writeStatus v s).inputs = s.inputs := by
  unfold writeStatus; dsimp only; split <;> split <;> rfl

@[simp] theorem writeByteAt_runState (off : Offset) (v : Byte) : (writeByteAt off v s).runState = s.runState := by
  unfold writeByteAt; split <;> rfl
@[simp] theorem writeByteAt_run (off : Offset) (v : Byte) : (writeByteAt off v s).run = s.run := by
  unfold writeByteAt; split <;> rfl
@[simp] theorem writeByteAt_ie (off : Offset) (v : Byte) : (writeByteAt off v s).ie = s.ie := by
  unfold writeByteAt; split <;> rfl
@[simp] theorem writeByteAt_vok (off : Offset) (v : Byte) : (writeByteAt off v s).vok = s.vok := by
  unfold writeByteAt; split <;> rfl
@[simp] theorem writeByteAt_cmdErr (off : Offset) (v : Byte) : (writeByteAt off v s).cmdErr = s.cmdErr := by
  unfold writeByteAt; split <;> rfl
@[simp] theorem writeByteAt_rxOvf (off : Offset) (v : Byte) : (writeByteAt off v s).rxOvf = s.rxOvf := by
  unfold writeByteAt; split <;> rfl
@[simp] theorem writeByteAt_errCause (off : Offset) (v : Byte) : (writeByteAt off v s).errCause = s.errCause := by
  unfold writeByteAt; split <;> rfl
@[simp] theorem writeByteAt_crcAcc (off : Offset) (v : Byte) : (writeByteAt off v s).crcAcc = s.crcAcc := by
  unfold writeByteAt; split <;> rfl
@[simp] theorem writeByteAt_plen (off : Offset) (v : Byte) : (writeByteAt off v s).plen = s.plen := by
  unfold writeByteAt; split <;> rfl
@[simp] theorem writeByteAt_parsed (off : Offset) (v : Byte) : (writeByteAt off v s).parsed = s.parsed := by
  unfold writeByteAt; split <;> rfl
@[simp] theorem writeByteAt_elen (off : Offset) (v : Byte) : (writeByteAt off v s).elen = s.elen := by
  unfold writeByteAt; split <;> rfl
@[simp] theorem writeByteAt_tlen (off : Offset) (v : Byte) : (writeByteAt off v s).tlen = s.tlen := by
  unfold writeByteAt; split <;> rfl
@[simp] theorem writeByteAt_idleTo (off : Offset) (v : Byte) : (writeByteAt off v s).idleTo = s.idleTo := by
  unfold writeByteAt; split <;> rfl
@[simp] theorem writeByteAt_elapsed (off : Offset) (v : Byte) : (writeByteAt off v s).elapsed = s.elapsed := by
  unfold writeByteAt; split <;> rfl
@[simp] theorem writeByteAt_ferrCnt (off : Offset) (v : Byte) : (writeByteAt off v s).ferrCnt = s.ferrCnt := by
  unfold writeByteAt; split <;> rfl
@[simp] theorem writeByteAt_discCnt (off : Offset) (v : Byte) : (writeByteAt off v s).discCnt = s.discCnt := by
  unfold writeByteAt; split <;> rfl
@[simp] theorem writeByteAt_rxq (off : Offset) (v : Byte) : (writeByteAt off v s).rxq = s.rxq := by
  unfold writeByteAt; split <;> rfl
@[simp] theorem writeByteAt_answer (off : Offset) (v : Byte) : (writeByteAt off v s).answer = s.answer := by
  unfold writeByteAt; split <;> rfl
@[simp] theorem writeByteAt_txFrame (off : Offset) (v : Byte) : (writeByteAt off v s).txFrame = s.txFrame := by
  unfold writeByteAt; split <;> rfl
@[simp] theorem writeByteAt_txLog (off : Offset) (v : Byte) : (writeByteAt off v s).txLog = s.txLog := by
  unfold writeByteAt; split <;> rfl
@[simp] theorem writeByteAt_inputs (off : Offset) (v : Byte) : (writeByteAt off v s).inputs = s.inputs := by
  unfold writeByteAt; split <;> rfl

@[simp] theorem capture_rxq : (capture s).rxq = s.rxq.drop 8 := by
  simp only [capture, settleCapture]; split <;> rfl
@[simp] theorem capture_plen : (capture s).plen = 8#9 := by
  simp only [capture, settleCapture]; split <;> rfl
@[simp] theorem capture_elapsed : (capture s).elapsed = 0#32 := by
  simp only [capture, settleCapture]; split <;> rfl
@[simp] theorem capture_mem : (capture s).mem = Memory.writeBytes s.mem pbufBase (s.rxq.take 8) := by
  simp only [capture, settleCapture]; split <;> rfl
@[simp] theorem capture_parsed : (capture s).parsed = decodeFrame (takeFrame s).parseFrame := by
  simp only [capture, settleCapture]; split <;> rfl
@[simp] theorem capture_runState : (capture s).runState =
    if (decodeFrame (takeFrame s).parseFrame).pst = .ok then .dispatch else s.runState := by
  by_cases h : (decodeFrame (takeFrame s).parseFrame).pst = .ok <;> simp [capture, settleCapture, h]
@[simp] theorem capture_ferrCnt : (capture s).ferrCnt =
    if (decodeFrame (takeFrame s).parseFrame).pst = .ok then s.ferrCnt else wrapInc s.ferrCnt := by
  by_cases h : (decodeFrame (takeFrame s).parseFrame).pst = .ok <;> simp [capture, settleCapture, h]
@[simp] theorem flush_discCnt : (flush s).discCnt = if s.rxq = [] then s.discCnt else wrapInc s.discCnt := by
  unfold flush; dsimp only; split <;> rfl
@[simp] theorem writeCtrl_run (a b : Bool) : (writeCtrl a b s).run = a := by
  unfold writeCtrl; dsimp only; split <;> rfl
@[simp] theorem writeCtrl_ie (a b : Bool) : (writeCtrl a b s).ie = b := by
  unfold writeCtrl; dsimp only; split <;> rfl
theorem writeCtrl_runState (a b : Bool) : (writeCtrl a b s).runState =
    if s.runState = .dispatch then .dispatch else if a then .polling else .stopped := by
  unfold writeCtrl; dsimp only; split <;> simp_all
theorem writeCtrl_elapsed (a b : Bool) : (writeCtrl a b s).elapsed =
    if s.runState = .stopped ∧ a = true then 0#32 else s.elapsed := by
  unfold writeCtrl; dsimp only; split <;> simp_all
@[simp] theorem writeStatus_cmdErr (v : Word) : (writeStatus v s).cmdErr = (!v.getLsbD 8 && s.cmdErr) := by
  unfold writeStatus; dsimp only; split <;> split <;> simp_all
@[simp] theorem writeStatus_errCause (v : Word) : (writeStatus v s).errCause = if v.getLsbD 8 then .noError else s.errCause := by
  unfold writeStatus; dsimp only; split <;> split <;> simp_all
@[simp] theorem writeStatus_rxOvf (v : Word) : (writeStatus v s).rxOvf = (!v.getLsbD 9 && s.rxOvf) := by
  unfold writeStatus; dsimp only; split <;> split <;> simp_all
@[simp] theorem writeByteAt_mem (off : Offset) (v : Byte) : (writeByteAt off v s).mem =
    if hostWritable off.toNat then Memory.write s.mem off.toNat v else s.mem := by
  unfold writeByteAt; split <;> rfl
theorem linePhase_rxq_length (rx : Option Byte) : (linePhase rx s).rxq.length ≤ s.rxq.length + 1 := by
  cases rx with
  | none => simp [linePhase]
  | some b => unfold linePhase; dsimp only; unfold rxPush; split <;> simp
@[simp] theorem flush_rxq : (flush s).rxq = [] := by
  unfold flush; dsimp only; split <;> rfl
@[simp] theorem flush_elapsed : (flush s).elapsed = 0#32 := by
  unfold flush; dsimp only; split <;> rfl

end Sys2Proof.Machine
end

