-- ==== Sys2Proof/Laws/Memory.lean ====
section
/-! SUPPORT. The buffer memory: a read after a write, what a write leaves alone, the canonical form every operation keeps, and that equal contents are equal lists. -/

namespace Sys2Proof.Machine

/-! ## Reading below the first listed offset -/

theorem Memory.wfAbove_weaken {lo lo' : Nat} {m : Memory} (h : Memory.wfAbove lo m = true) (le : lo' ≤ lo) :
    Memory.wfAbove lo' m = true := by
  cases m with
  | nil => rfl
  | cons c m =>
    simp only [Memory.wfAbove, Bool.and_eq_true, decide_eq_true_eq] at h ⊢
    exact ⟨⟨by omega, h.1.2⟩, h.2⟩

theorem Memory.wf_of_wfAbove {lo : Nat} {m : Memory} (h : Memory.wfAbove lo m = true) : m.wf = true :=
  Memory.wfAbove_weaken h (Nat.zero_le lo)

theorem Memory.read_below {lo a : Nat} {m : Memory} (h : Memory.wfAbove lo m = true) (lt : a < lo) :
    m.read a = 0#8 := by
  induction m generalizing lo with
  | nil => rfl
  | cons c m ih =>
    simp only [Memory.wfAbove, Bool.and_eq_true, decide_eq_true_eq] at h
    have ne : a ≠ c.1 := by omega
    simp only [Memory.read, ne, if_false]
    exact ih h.2 (by omega)

/-! ## One byte -/

theorem Memory.read_consByte {a x : Nat} {v : Byte} {m : Memory} (h : Memory.wfAbove (a + 1) m = true) :
    (Memory.consByte a v m).read x = if x = a then v else m.read x := by
  by_cases hv : v = 0#8 <;> by_cases hx : x = a <;> simp [Memory.consByte, Memory.read, hv, hx]
  exact Memory.read_below h (Nat.lt_succ_self a)

theorem Memory.read_consByte_other {a x : Nat} {v : Byte} {m : Memory} (ne : x ≠ a) :
    (Memory.consByte a v m).read x = m.read x := by
  by_cases hv : v = 0#8 <;> simp [Memory.consByte, Memory.read, hv, ne]

theorem Memory.wfAbove_consByte {lo a : Nat} {v : Byte} {m : Memory} (h : Memory.wfAbove (a + 1) m = true)
    (le : lo ≤ a) : Memory.wfAbove lo (Memory.consByte a v m) = true := by
  by_cases hv : v = 0#8
  · simpa [Memory.consByte, hv] using Memory.wfAbove_weaken h (by omega)
  · simp [Memory.consByte, Memory.wfAbove, hv, le, h]

/-- A write leaves every other offset alone, in every memory. -/
theorem Memory.read_write_other {a x : Nat} {v : Byte} {m : Memory} (ne : x ≠ a) : (m.write a v).read x = m.read x := by
  induction m with
  | nil => simpa [Memory.write] using Memory.read_consByte_other (m := []) ne
  | cons c m ih =>
    simp only [Memory.write]
    split
    · exact Memory.read_consByte_other ne
    · split
      · rename_i h; rw [Memory.read_consByte_other ne]; simp [Memory.read, ← h, ne]
      · by_cases hx : x = c.1 <;> simp [Memory.read, hx, ih]

theorem Memory.read_write_same_above {lo a : Nat} {v : Byte} {m : Memory} (h : Memory.wfAbove lo m = true) :
    (m.write a v).read a = v := by
  induction m generalizing lo with
  | nil => simpa [Memory.write] using Memory.read_consByte (a := a) (x := a) (v := v) (m := []) rfl
  | cons c m ih =>
    simp only [Memory.wfAbove, Bool.and_eq_true, decide_eq_true_eq] at h
    simp only [Memory.write]
    split
    · rename_i lt
      rw [Memory.read_consByte]
      · simp
      · simp only [Memory.wfAbove, Bool.and_eq_true, decide_eq_true_eq]
        exact ⟨⟨by omega, h.1.2⟩, h.2⟩
    · split
      · rename_i eq
        rw [Memory.read_consByte]
        · simp
        · rw [eq]; exact h.2
      · rename_i ne
        simp only [Memory.read, ne, if_false]
        exact ih h.2

/-- A read after a write of the same offset gives the byte written. -/
theorem Memory.read_write_same {a : Nat} {v : Byte} {m : Memory} (h : m.wf = true) : (m.write a v).read a = v :=
  Memory.read_write_same_above h

theorem Memory.read_write {a x : Nat} {v : Byte} {m : Memory} (h : m.wf = true) :
    (m.write a v).read x = if x = a then v else m.read x := by
  split
  · rename_i eq; subst eq; exact Memory.read_write_same h
  · rename_i ne; exact Memory.read_write_other ne

theorem Memory.wfAbove_write {lo a : Nat} {v : Byte} {m : Memory} (h : Memory.wfAbove lo m = true) (le : lo ≤ a) :
    Memory.wfAbove lo (m.write a v) = true := by
  induction m generalizing lo with
  | nil => simpa [Memory.write] using Memory.wfAbove_consByte (m := []) rfl le
  | cons c m ih =>
    have h' := h
    simp only [Memory.wfAbove, Bool.and_eq_true, decide_eq_true_eq] at h'
    simp only [Memory.write]
    split
    · exact Memory.wfAbove_consByte (Memory.wfAbove_weaken (lo := a + 1) (by
        simp only [Memory.wfAbove, Bool.and_eq_true, decide_eq_true_eq]
        exact ⟨⟨by omega, h'.1.2⟩, h'.2⟩) (Nat.le_refl _)) le
    · split
      · rename_i eq; rw [eq]; exact Memory.wfAbove_consByte h'.2 h'.1.1
      · simp only [Memory.wfAbove, Bool.and_eq_true, decide_eq_true_eq]
        exact ⟨h'.1, ih h'.2 (by omega)⟩

/-- A write keeps the canonical form. -/
theorem Memory.wf_write {a : Nat} {v : Byte} {m : Memory} (h : m.wf = true) : (m.write a v).wf = true :=
  Memory.wfAbove_write h (Nat.zero_le a)

/-! ## Byte sequences -/

theorem Memory.read_writeBytes_other {a x : Nat} {vs : List Byte} {m : Memory} (out : x < a ∨ a + vs.length ≤ x) :
    (m.writeBytes a vs).read x = m.read x := by
  induction vs generalizing a m with
  | nil => rfl
  | cons v vs ih =>
    simp only [List.length_cons] at out
    rw [Memory.writeBytes, ih (by omega), Memory.read_write_other (by omega)]

/-- Storing a byte sequence keeps the canonical form. -/
theorem Memory.wf_writeBytes {a : Nat} {vs : List Byte} {m : Memory} (h : m.wf = true) :
    (m.writeBytes a vs).wf = true := by
  induction vs generalizing a m with
  | nil => exact h
  | cons v vs ih => exact ih (Memory.wf_write h)

theorem Memory.read_writeBytes_inside {a k : Nat} {vs : List Byte} {m : Memory} (h : m.wf = true)
    (lt : k < vs.length) : (m.writeBytes a vs).read (a + k) = vs.getD k 0#8 := by
  induction vs generalizing a k m with
  | nil => simp at lt
  | cons v vs ih =>
    cases k with
    | zero =>
      rw [Memory.writeBytes, Memory.read_writeBytes_other (by omega)]
      simpa using Memory.read_write_same h
    | succ k =>
      have := ih (a := a + 1) (k := k) (Memory.wf_write (a := a) (v := v) h) (by simpa using lt)
      rw [Memory.writeBytes, show a + (k + 1) = a + 1 + k by omega, this]
      simp

theorem Memory.readBytes_congr {m m' : Memory} {a a' n : Nat} (h : ∀ k < n, m.read (a + k) = m'.read (a' + k)) :
    m.readBytes a n = m'.readBytes a' n := by
  simp only [Memory.readBytes]
  exact List.map_congr_left (fun k hk => h k (List.mem_range.mp hk))

@[simp] theorem Memory.length_readBytes {m : Memory} {a n : Nat} : (m.readBytes a n).length = n := by
  simp [Memory.readBytes]

theorem Memory.getD_readBytes {m : Memory} {a n k : Nat} (lt : k < n) :
    (m.readBytes a n).getD k 0#8 = m.read (a + k) := by
  simp [Memory.readBytes, List.getD, lt]

theorem Memory.take_readBytes {m : Memory} {a n k : Nat} (le : k ≤ n) :
    (m.readBytes a n).take k = m.readBytes a k := by
  simp only [Memory.readBytes, ← List.map_take, List.take_range, Nat.min_eq_left le]

/-- Reading back a stored byte sequence gives it. -/
theorem Memory.readBytes_writeBytes {a : Nat} {vs : List Byte} {m : Memory} (h : m.wf = true) :
    (m.writeBytes a vs).readBytes a vs.length = vs := by
  apply List.ext_getElem (by simp)
  intro k h1 h2
  have := Memory.read_writeBytes_inside (a := a) (m := m) h h2
  simp only [Memory.readBytes, List.getElem_map, List.getElem_range, this]
  simp [List.getD, h2]

/-- Storing outside an interval leaves what is read from it alone. -/
theorem Memory.readBytes_writeBytes_other {a b n : Nat} {vs : List Byte} {m : Memory}
    (out : b + n ≤ a ∨ a + vs.length ≤ b) : (m.writeBytes a vs).readBytes b n = m.readBytes b n :=
  Memory.readBytes_congr (fun k hk => Memory.read_writeBytes_other (by omega))

/-! ## Where bytes are listed -/

theorem Memory.inBuffers_consByte {a : Nat} {v : Byte} {m : Memory} (h : m.inBuffers = true)
    (ha : isBufferOffset a = true) : (Memory.consByte a v m).inBuffers = true := by
  by_cases hv : v = 0#8
  · simpa [Memory.consByte, hv] using h
  · simp only [Memory.inBuffers] at h ⊢
    simp [Memory.consByte, hv, ha, h]

theorem Memory.inBuffers_write {a : Nat} {v : Byte} {m : Memory} (h : m.inBuffers = true)
    (ha : isBufferOffset a = true) : (m.write a v).inBuffers = true := by
  induction m with
  | nil => simpa [Memory.write] using Memory.inBuffers_consByte h ha
  | cons c m ih =>
    have h' : isBufferOffset c.1 = true ∧ Memory.inBuffers m = true := by
      simpa [Memory.inBuffers] using h
    simp only [Memory.write]
    split
    · exact Memory.inBuffers_consByte h ha
    · split
      · exact Memory.inBuffers_consByte h'.2 ha
      · have := ih h'.2
        simpa [Memory.inBuffers, h'.1] using this

theorem Memory.inBuffers_writeBytes {a : Nat} {vs : List Byte} {m : Memory} (h : m.inBuffers = true)
    (ha : ∀ k < vs.length, isBufferOffset (a + k) = true) : (m.writeBytes a vs).inBuffers = true := by
  induction vs generalizing a m with
  | nil => exact h
  | cons v vs ih =>
    refine ih (Memory.inBuffers_write h (by simpa using ha 0 (by simp))) (fun k hk => ?_)
    have := ha (k + 1) (by simpa using hk)
    rwa [show a + (k + 1) = a + 1 + k by omega] at this

theorem isBufferOffset_pbuf {k : Nat} (lt : k < 256) : isBufferOffset (pbufBase + k) = true := by
  simp only [isBufferOffset, Bool.or_eq_true, Bool.and_eq_true, decide_eq_true_eq]
  simp only [pbufBase, ebufBase, ebufSize, tbufBase, windowSize]
  omega

theorem isBufferOffset_tbuf {k : Nat} (lt : k < 256) : isBufferOffset (tbufBase + k) = true := by
  simp only [isBufferOffset, Bool.or_eq_true, Bool.and_eq_true, decide_eq_true_eq]
  simp only [pbufBase, ebufBase, ebufSize, tbufBase, windowSize]
  omega

/-! ## Equal contents, equal lists -/

/-- Two canonical memories that read the same at every offset are the same list. -/
theorem Memory.ext_of_read {lo : Nat} {m m' : Memory} (h : Memory.wfAbove lo m = true)
    (h' : Memory.wfAbove lo m' = true) (same : ∀ x, m.read x = m'.read x) : m = m' := by
  induction m generalizing lo m' with
  | nil =>
    cases m' with
    | nil => rfl
    | cons c m' =>
      simp only [Memory.wfAbove, Bool.and_eq_true, decide_eq_true_eq] at h'
      have := same c.1
      simp only [Memory.read, if_true] at this
      exact absurd this.symm h'.1.2
  | cons c m ih =>
    have hc := h
    simp only [Memory.wfAbove, Bool.and_eq_true, decide_eq_true_eq] at hc
    cases m' with
    | nil =>
      have := same c.1
      simp only [Memory.read, if_true] at this
      exact absurd this hc.1.2
    | cons c' m' =>
      have hc' := h'
      simp only [Memory.wfAbove, Bool.and_eq_true, decide_eq_true_eq] at hc'
      have eqOff : c.1 = c'.1 := by
        rcases Nat.lt_trichotomy c.1 c'.1 with lt | eq | gt
        · have := same c.1
          have low : Memory.read m' c.1 = 0#8 := Memory.read_below hc'.2 (by omega)
          simp only [Memory.read, if_true, Nat.ne_of_lt lt, if_false, low] at this
          exact absurd this hc.1.2
        · exact eq
        · have := same c'.1
          have low : Memory.read m c'.1 = 0#8 := Memory.read_below hc.2 (by omega)
          simp only [Memory.read, if_true, Nat.ne_of_lt gt, if_false, low] at this
          exact absurd this.symm hc'.1.2
      have eqByte : c.2 = c'.2 := by
        have := same c.1
        simpa only [Memory.read, eqOff, if_true] using this
      have tails : m = m' := by
        refine ih hc.2 (by rw [eqOff]; exact hc'.2) (fun x => ?_)
        by_cases hx : x = c.1
        · rw [Memory.read_below hc.2 (by omega), Memory.read_below hc'.2 (by omega)]
        · have := same x
          simpa only [Memory.read, hx, ← eqOff, if_false] using this
      rw [tails, Prod.ext eqOff eqByte]

/-- The memory of `State.reset` has the canonical form. -/
theorem reset_mem_wf : State.reset.mem.wf = true := rfl

end Sys2Proof.Machine
end

