-- ==== Sys2Proof/Laws/Cycle.lean ====
section
/-! SUPPORT. Said once: everything the shared operations, the commands, the host port, the loop and a cycle can do. Later proofs cite these cases instead of opening the definitions. -/

namespace Sys2Proof.Machine

/-! ## Outcomes -/

@[simp] theorem andThen_next {s : State} {f : State → State} : andThen (.next s) f = .next (f s) := rfl

@[simp] theorem andThen_fault {r : Fault} {f : State → State} : andThen (.fault r) f = .fault r := rfl

theorem andThen_eq_next {o : Host.Outcome State Fault Refusal} {f : State → State} {t : State}
    (h : andThen o f = .next t) : ∃ s, o = .next s ∧ t = f s := by
  cases o with
  | next s => exact ⟨s, rfl, by simpa [andThen] using h.symm⟩
  | fault r => simp [andThen] at h
  | refused r => simp [andThen] at h

/-! ## Commands -/

/-- What a command's execution can leave (R103 to R106, R121 to R123, R160 to R163): a cause recorded and nothing else,
or the command's own effect. -/
theorem exec_cases {i : Instr} {s t : State} (h : exec i s = .next t) :
    (∃ c, c ≠ ErrCause.noError ∧ t = s.raiseCmdError c ∧ (i = .doneTx ∨ i = .doneDrop → s.runState ≠ .dispatch)) ∨
    (i = .nop ∧ t = s) ∨ (i = .crcInit ∧ t = s.setCrcAcc crcInitial) ∨
    (∃ a, i = .crcFeed a ∧ t = s.setCrcAcc (crcStep s.crcAcc a)) ∨
    (i = .crcCompute ∧ t = s.setCrcAcc (crc16 s.parseFrame)) ∨
    (i = .crcVerify ∧ (t = s.setVok false ∨ ∃ c v, t = (s.setCrcAcc c).setVok v)) ∨
    (i = .decode ∧ s.plen.toNat ≤ 256 ∧ t = s.decodeParseBuffer) ∨
    (∃ a b, i = .encode a b ∧ s.elen.toNat ≤ 252 ∧ t = s.loadTx (responseFrame a b (s.ebufBytes s.elen.toNat))) ∨
    (∃ a b c, i = .encodeExc a b c ∧ t = s.loadTx (exceptionFrame a b c)) ∨
    (i = .doneTx ∧ s.runState = .dispatch ∧ t = endDispatch (s.emit s.txBuffer)) ∨
    (i = .doneDrop ∧ s.runState = .dispatch ∧ t = endDispatch s) ∨ (i = .rxFlush ∧ t = s.setRxq []) := by
  cases i with
  | nop | crcInit | crcFeed a | encodeExc a b c | rxFlush =>
    simp only [exec, execNop, execCrcInit, execCrcFeed, execEncodeExc, execRxFlush, Host.Outcome.next.injEq] at h
    simp [h.symm]
  | crcCompute =>
    simp only [exec, execCrcCompute] at h
    split at h <;> simp only [Host.Outcome.next.injEq] at h
    · exact .inl ⟨.length, by simp, h.symm, by simp⟩
    · simp [h.symm]
  | crcVerify =>
    simp only [exec, execCrcVerify] at h
    split at h
    · simp only [Host.Outcome.next.injEq] at h
      exact .inl ⟨.length, by simp, h.symm, by simp⟩
    · split at h <;> simp only [Host.Outcome.next.injEq] at h
      · simp [h.symm]
      · exact .inr (.inr (.inr (.inr (.inr (.inl ⟨rfl, .inr ⟨_, _, h.symm⟩⟩)))))
  | decode =>
    simp only [exec, execDecode] at h
    split at h <;> simp only [Host.Outcome.next.injEq] at h
    · exact .inl ⟨.length, by simp, h.symm, by simp⟩
    · rename_i short
      simp only [State.plenTooLong, decide_eq_true_eq] at short
      exact .inr (.inr (.inr (.inr (.inr (.inr (.inl ⟨rfl, Nat.not_lt.mp short, h.symm⟩))))))
  | encode a b =>
    simp only [exec, execEncode] at h
    split at h <;> simp only [Host.Outcome.next.injEq] at h
    · exact .inl ⟨.length, by simp, h.symm, by simp⟩
    · rename_i short
      exact .inr (.inr (.inr (.inr (.inr (.inr (.inr (.inl ⟨a, b, rfl, Nat.not_lt.mp short, h.symm⟩)))))))
  | doneTx =>
    simp only [exec, execDoneTx] at h
    split at h <;> simp only [Host.Outcome.next.injEq] at h
    · rename_i d; simp [h.symm, d]
    · rename_i d; exact .inl ⟨.state, by simp, h.symm, fun _ => d⟩
  | doneDrop =>
    simp only [exec, execDoneDrop] at h
    split at h <;> simp only [Host.Outcome.next.injEq] at h
    · rename_i d; simp [h.symm, d]
    · rename_i d; exact .inl ⟨.state, by simp, h.symm, fun _ => d⟩

/-- Every command completes in its cycle (R152, R228). -/
theorem exec_answers_next (i : Instr) (s : State) : ∃ t, exec i s = .next t := by
  cases i <;>
    simp only [exec, execNop, execCrcInit, execCrcFeed, execCrcCompute, execCrcVerify, execDecode, execEncode,
      execEncodeExc, execDoneTx, execDoneDrop, execRxFlush] <;>
    (try split) <;> (try split) <;> exact ⟨_, rfl⟩

/-- A word written to CMD: a command's execution, or cause 1 or 2 recorded. -/
theorem command_cases {w : Word} {s t : State} (h : command w s = .next t) :
    (∃ i, decodeWord w = .ok i ∧ exec i s = .next t) ∨ (decodeWord w = .reservedOp ∧ t = s.raiseCmdError .reservedOp) ∨
      (decodeWord w = .reservedField ∧ t = s.raiseCmdError .reservedField) := by
  unfold command at h
  split at h
  · rename_i i hi; exact .inl ⟨i, hi, h⟩
  · rename_i hi; exact .inr (.inl ⟨hi, by simpa using h.symm⟩)
  · rename_i hi; exact .inr (.inr ⟨hi, by simpa using h.symm⟩)

theorem command_answers_next (w : Word) (s : State) : ∃ t, command w s = .next t := by
  unfold command
  split
  · exact exec_answers_next _ s
  · exact ⟨_, rfl⟩
  · exact ⟨_, rfl⟩

/-! ## The host port -/

theorem regAt_offset (r : Reg) : regAt r.offset = some r := by
  cases r <;> rfl

theorem offset_of_regAt {off : Offset} {r : Reg} (h : regAt off = some r) : off = r.offset := by
  unfold regAt at h
  split at h <;> simp only [Option.some.injEq, reduceCtorEq] at h <;> subst h <;> rfl

/-- A register write completes. -/
theorem writeWordAt_answers_next (off : Offset) (v : Word) (s : State) : ∃ t, writeWordAt off v s = .next t := by
  unfold writeWordAt
  split
  · rename_i r _
    cases r with
    | cmd => exact command_answers_next v s
    | ctrl | status | errcause | crc | plen | pstat | phdr | pfld | pcrc | elen | tlen | rxcnt | idleTo | elapsed | diag =>
      exact ⟨_, rfl⟩
  · exact ⟨_, rfl⟩

/-- What an accepted or refused host access can leave: an answer alone, a byte stored, or a register written. -/
theorem hostAccess_cases {a : HostAccess} {s t : State} (h : hostAccess a s = .next t) :
    acceptedAccess a = true ∧
    ((∃ n, a.op = .read n ∧ t = s.setAnswer (busRead s a.off n)) ∨
      (∃ v, a.op = .write1 v ∧ t = (writeByteAt a.off v s).setAnswer .wrote) ∨
      (∃ v u, a.op = .write4 v ∧ writeWordAt a.off v s = .next u ∧ t = u.setAnswer .wrote)) := by
  unfold hostAccess at h
  split at h
  · rename_i acc
    refine ⟨acc, ?_⟩
    unfold busAccess at h
    split at h
    · rename_i n hn; exact .inl ⟨n, hn, by simpa using h.symm⟩
    · rename_i v hv; exact .inr (.inl ⟨v, hv, by simpa using h.symm⟩)
    · rename_i v hv
      simp [acceptedAccess, accepted, hv, opSize, accessBytes] at acc
    · rename_i v hv
      obtain ⟨u, hu, rfl⟩ := andThen_eq_next h
      exact .inr (.inr ⟨v, u, hv, hu, rfl⟩)
  · simp at h

/-- A register write, register by register. -/
theorem writeWordAt_cases {off : Offset} {v : Word} {s t : State} (h : writeWordAt off v s = .next t) :
    (off ≠ Reg.cmd.offset ∧ t = s) ∨ (off = Reg.ctrl.offset ∧ t = writeCtrl (v.getLsbD 0) (v.getLsbD 1) s) ∨
      (off = Reg.status.offset ∧ t = writeStatus v s) ∨ (off = Reg.cmd.offset ∧ command v s = .next t) ∨
      (off = Reg.plen.offset ∧ t = s.setPlen (v.setWidth 9)) ∨ (off = Reg.elen.offset ∧ t = s.setElen (v.setWidth 9)) ∨
      (off = Reg.idleTo.offset ∧ t = s.setIdleTo v) ∨ (off = Reg.diag.offset ∧ t = s.setDiag 0 0) := by
  unfold writeWordAt at h
  split at h
  · rename_i r hr
    have := offset_of_regAt hr
    cases r <;> simp only [writeReg, Host.Outcome.next.injEq] at h <;> (try subst h) <;> (try rw [this]) <;>
      first
        | exact .inl ⟨by decide, rfl⟩
        | exact .inr (.inr (.inr (.inl ⟨rfl, h⟩)))
        | simp
  · rename_i hr
    refine .inl ⟨fun eq => ?_, by simpa using h.symm⟩
    rw [eq, regAt_offset] at hr
    simp at hr

theorem hostAccess_accepted {a : HostAccess} {s : State} (h : acceptedAccess a = true) : ∃ t, hostAccess a s = .next t := by
  simp only [hostAccess, h, if_true, busAccess]
  cases a.op with
  | read n => exact ⟨_, rfl⟩
  | write1 v => exact ⟨_, rfl⟩
  | write2 v => exact ⟨_, rfl⟩
  | write4 v =>
    obtain ⟨t, ht⟩ := writeWordAt_answers_next a.off v s
    exact ⟨_, by simp [ht]; rfl⟩

theorem hostAccess_unaccepted {a : HostAccess} {s : State} (h : acceptedAccess a = false) :
    hostAccess a s = .fault .busError := by
  simp [hostAccess, h]

/-! ## The loop -/

/-- Phase 4: nothing, a capture, or a flush (R157, R158). -/
theorem loopPhase_cases (s : State) :
    loopPhase s = s ∨ (s.runState = .polling ∧ 8 ≤ s.rxq.length ∧ loopPhase s = capture s) ∨
      (s.runState = .polling ∧ s.rxq.length < 8 ∧ s.idleExpired = true ∧ loopPhase s = flush s) := by
  cases h : s.runState <;> simp only [loopPhase, h, true_or, true_and]
  by_cases full : 8 ≤ s.rxq.length
  · exact .inr (.inl ⟨full, by simp [loopStep, frameLen, full]⟩)
  · by_cases late : s.idleExpired = true
    · exact .inr (.inr ⟨by omega, late, by simp [loopStep, frameLen, full, late]⟩)
    · exact .inl (by simp [loopStep, frameLen, full, late])

/-- The frame a capture decodes is the 8 bytes it took, in order. -/
theorem takeFrame_parseFrame {s : State} (wf : s.mem.wf = true) (full : 8 ≤ s.rxq.length) :
    (takeFrame s).parseFrame = s.rxq.take 8 := by
  have len : (s.rxq.take 8).length = 8 := by simp [full]
  have := Memory.readBytes_writeBytes (a := pbufBase) (vs := s.rxq.take 8) wf
  rw [len] at this
  simpa [State.parseFrame, State.pbufBytes, frameLen] using this

theorem length_parseFrame (s : State) : s.parseFrame.length = s.plen.toNat := by
  simp [State.parseFrame, State.pbufBytes]

/-! ## Decoding -/

/-- What a decode can leave: TOO_SHORT, CRC_MISMATCH with both CRCs, or the frame's parts (R120). -/
theorem decodeFrame_cases (raw : List Byte) :
    (raw.length < 8 ∧ decodeFrame raw = rejectedFrame .tooShort 0 0) ∨
    (8 ≤ raw.length ∧ receivedCrc raw ≠ crc16 (coveredBytes raw) ∧
      decodeFrame raw = rejectedFrame .crcMismatch (receivedCrc raw) (crc16 (coveredBytes raw))) ∨
    (8 ≤ raw.length ∧ receivedCrc raw = crc16 (coveredBytes raw) ∧
      decodeFrame raw =
        { pst := .ok
          fv := recognized (byteAt raw 1)
          slave := byteAt raw 0
          fc := byteAt raw 1
          payLen := BitVec.ofNat 9 (raw.length - 4)
          fa := if recognized (byteAt raw 1) then fieldA raw else 0
          fb := if recognized (byteAt raw 1) then fieldB raw else 0
          crcRx := receivedCrc raw
          crcCalc := crc16 (coveredBytes raw) }) := by
  by_cases short : raw.length < 8
  · exact .inl ⟨short, by simp [decodeFrame, minFrame, short]⟩
  · by_cases eq : receivedCrc raw = crc16 (coveredBytes raw)
    · exact .inr (.inr ⟨by omega, eq, by simp only [decodeFrame, minFrame, short, eq, if_false, ne_eq, not_true]⟩)
    · exact .inr (.inl ⟨by omega, eq, by simp only [decodeFrame, minFrame, short, eq, if_false, ne_eq, not_false_eq_true, if_true]⟩)

/-- FERR_CNT over the loop phase: it counts exactly a capture of 8 bytes whose CRC does not match (R155). -/
theorem loopPhase_ferrCnt {s : State} (wf : s.mem.wf = true) :
    (loopPhase s).ferrCnt =
      (if s.runState = .polling ∧ 8 ≤ s.rxq.length ∧ receivedCrc (s.rxq.take 8) ≠ crc16 (s.rxq.take 6) then
        wrapInc s.ferrCnt
      else s.ferrCnt) := by
  rcases loopPhase_cases s with e | ⟨run, full, e⟩ | ⟨run, few, _, e⟩
  · rw [e, if_neg]
    rintro ⟨run, full, bad⟩
    have e' : loopPhase s = capture s := by simp [loopPhase, run, loopStep, frameLen, full]
    have taken := congrArg (fun t : State => t.rxq.length) (e'.symm.trans e)
    simp at taken
    omega
  · have cover : coveredBytes (s.rxq.take 8) = s.rxq.take 6 := by
      have len : (s.rxq.take 8).length = 8 := by simp [full]
      rw [coveredBytes, len, List.take_take]
      rfl
    have parse := takeFrame_parseFrame wf full
    rw [e]
    rcases decodeFrame_cases (s.rxq.take 8) with ⟨short, _⟩ | ⟨_, bad, d⟩ | ⟨_, good, d⟩
    · simp at short; omega
    · rw [cover] at bad
      rw [if_pos ⟨run, full, bad⟩]
      simp [parse, d, rejectedFrame]
    · rw [cover] at good
      rw [if_neg (fun h => h.2.2 good)]
      simp [parse, d]
  · rw [e, if_neg (by omega)]
    by_cases empty : s.rxq = [] <;> simp

/-- DISC_CNT over the loop phase: it counts exactly a flush that discards a byte (R156). -/
theorem loopPhase_discCnt (s : State) :
    (loopPhase s).discCnt =
      (if s.runState = .polling ∧ 1 ≤ s.rxq.length ∧ s.rxq.length < 8 ∧ s.idleTo.toNat < s.elapsed.toNat then
        wrapInc s.discCnt
      else s.discCnt) := by
  cases h : s.runState <;> simp only [loopPhase, h]
  case polling =>
    by_cases full : 8 ≤ s.rxq.length
    · simp [loopStep, frameLen, full]
    · by_cases late : s.idleTo.toNat < s.elapsed.toNat
      · by_cases empty : s.rxq = []
        · simp [loopStep, frameLen, State.idleExpired, BitVec.lt_def, late, empty]
        · have : 1 ≤ s.rxq.length := List.length_pos_iff.mpr empty
          simp [loopStep, frameLen, State.idleExpired, BitVec.lt_def, late, empty, full, this]
      · simp [loopStep, frameLen, State.idleExpired, BitVec.lt_def, late, full]
  all_goals simp

/-- The later phases: nothing but the FIFO, ELAPSED, RX_OVF and DISC_CNT, or a capture (R151, R155 to R157). -/
theorem laterPhases_cases (s : State) (rx : Option Byte) (tick : Bool) :
    let t := laterPhases rx tick s
    (t.plen = s.plen ∧ t.parsed = s.parsed ∧ t.mem = s.mem ∧ t.runState = s.runState ∧ t.ferrCnt = s.ferrCnt ∧
      (t.discCnt = s.discCnt ∨
        (t.discCnt = wrapInc s.discCnt ∧ t.rxq = [] ∧ t.elapsed = 0#32 ∧ s.runState = .polling))) ∨
    (t.plen = 8#9 ∧ t.elapsed = 0#32 ∧ s.runState = .polling ∧ 7 ≤ s.rxq.length ∧ t.discCnt = s.discCnt ∧
      t.mem = Memory.writeBytes s.mem pbufBase ((linePhase rx s).rxq.take 8) ∧
      ((t.runState = .dispatch ∧ t.parsed.pst = .ok ∧ t.ferrCnt = s.ferrCnt) ∨
        (t.runState = .polling ∧ t.parsed.pst = .crcMismatch ∧ t.ferrCnt = wrapInc s.ferrCnt))) := by
  intro t
  have l := linePhase_rxq_length s rx
  have ht : t = loopPhase (tickPhase tick (linePhase rx s)) := rfl
  rcases loopPhase_cases (tickPhase tick (linePhase rx s)) with e | ⟨a, b, e⟩ | ⟨a, _, _, e⟩ <;> rw [ht, e]
  · simp
  · right
    simp at a b ⊢
    refine ⟨a, by omega, ?_⟩
    have L : (takeFrame (tickPhase tick (linePhase rx s))).parseFrame.length = 8 := by rw [length_parseFrame]; rfl
    rcases decodeFrame_cases (takeFrame (tickPhase tick (linePhase rx s))).parseFrame with ⟨h, _⟩ | ⟨_, _, h⟩ | ⟨_, _, h⟩
    · omega
    · right; simp [h, rejectedFrame, a]
    · left; simp [h]
  · simp only [linePhase_runState, tickPhase_runState] at a
    by_cases empty : (linePhase rx s).rxq = [] <;> simp [empty, a]

/-! ## A cycle -/

/-- A cycle that answers a next state is a reset, or the host phase followed by the later phases. -/
theorem cycle_cases {i : CycleInput} {s t : State} (h : cycle i s = .next t) :
    (i.rst = true ∧ t = resetCycle s) ∨
      (i.rst = false ∧ ∃ u, hostPhase i.host s = .next u ∧ t = laterPhases i.rx i.tick u) := by
  unfold cycle at h
  split at h
  · rename_i r; exact .inl ⟨r, by simpa using h.symm⟩
  · rename_i r
    obtain ⟨u, hu, rfl⟩ := andThen_eq_next h
    exact .inr ⟨by simpa using r, u, hu, rfl⟩

theorem hostPhase_cases {host : Option HostAccess} {s t : State} (h : hostPhase host s = .next t) :
    (host = none ∧ t = s) ∨ ∃ a, host = some a ∧ hostAccess a s = .next t := by
  cases host with
  | none => exact .inl ⟨rfl, by simpa [hostPhase] using h.symm⟩
  | some a => exact .inr ⟨a, rfl, h⟩

end Sys2Proof.Machine
end

