-- ==== Sys2Proof/Laws/Encoding.lean ====
section
/-! SUPPORT. The fields of a word and the word of the fields (R80), and what the decoder can answer. -/

namespace Sys2Proof

theorem fieldsOfWord_wordOfFields (f : CmdFields) : fieldsOfWord (wordOfFields f) = f := by
  obtain ⟨op, a, b, c⟩ := f
  simp only [fieldsOfWord, wordOfFields, CmdFields.mk.injEq]
  refine ⟨?_, ?_, ?_, ?_⟩ <;>
  · apply BitVec.eq_of_getLsbD_eq
    intro i hi
    simp only [BitVec.getLsbD_extractLsb', BitVec.getLsbD_append, hi]
    simp
    repeat' split
    all_goals first | omega | (congr 1; omega)

theorem wordOfFields_fieldsOfWord (w : Word) : wordOfFields (fieldsOfWord w) = w := by
  apply BitVec.eq_of_getLsbD_eq
  intro i hi
  simp only [fieldsOfWord, wordOfFields, BitVec.getLsbD_extractLsb', BitVec.getLsbD_append]
  split
  · simp_all
  · split
    · have : i - 8 < 8 := by omega
      simp [this]; congr 1; omega
    · split
      · have : i - 8 - 8 < 8 := by omega
        simp [this]; congr 1; omega
      · have : i - 8 - 8 - 8 < 8 := by omega
        simp [this]; congr 1; omega

/-- The decoder's three answers on four field bytes, with what each says about them. -/
theorem decodeFields_cases (f : CmdFields) :
    (∃ i, decodeFields f = .ok i ∧ f = fieldsOfInstr i ∧ f.wellFormed = true ∧ f.op ∈ definedOps) ∨
    (decodeFields f = .reservedField ∧ f.wellFormed = false ∧ f.op ∈ definedOps) ∨
    (decodeFields f = .reservedOp ∧ f.wellFormed = false ∧ f.op ∉ definedOps) := by
  obtain ⟨op, a, b, c⟩ := f
  simp only [decodeFields]
  split
  case h_12 =>
    refine .inr (.inr ⟨rfl, ?_, ?_⟩)
    · simp only [CmdFields.wellFormed]; simp_all
    · simp only [definedOps]; simp_all
  all_goals
    (try simp only [decodeCmd0, decodeCmdA, decodeCmdAB])
    (try split)
    · refine .inl ⟨_, rfl, ?_⟩
      simp_all [fieldsOfInstr, CmdFields.wellFormed, definedOps]
    try
      refine .inr (.inl ⟨rfl, ?_⟩)
      rename_i h
      simp [CmdFields.wellFormed, definedOps] at h ⊢
      try (intro h1; exact h h1)
      try (exact h)

end Sys2Proof
end

