-- ==== Sys2Proof/Laws/PerInstr.lean ====
section
/-! SUPPORT. One lemma per command about its syntax: the family `EncodedFields`. -/

namespace Sys2Proof.Laws.EncodedFields

/-- A command's fields meet the must-be-zero columns of R81's map, and its OP is one of the eleven. -/
def Statement (i : Instr) : Prop :=
  (fieldsOfInstr i).wellFormed = true ∧ (fieldsOfInstr i).op ∈ definedOps ∧ decodeFields (fieldsOfInstr i) = .ok i

theorem nop : Statement .nop := by simp only [Statement]; decide

theorem crcInit : Statement .crcInit := by simp only [Statement]; decide

theorem crcFeed (a : Byte) : Statement (.crcFeed a) := ⟨rfl, by simp [fieldsOfInstr, definedOps], rfl⟩

theorem crcCompute : Statement .crcCompute := by simp only [Statement]; decide

theorem crcVerify : Statement .crcVerify := by simp only [Statement]; decide

theorem decode : Statement .decode := by simp only [Statement]; decide

theorem encode (a b : Byte) : Statement (.encode a b) := ⟨rfl, by simp [fieldsOfInstr, definedOps], rfl⟩

theorem encodeExc (a b c : Byte) : Statement (.encodeExc a b c) := ⟨rfl, by simp [fieldsOfInstr, definedOps], rfl⟩

theorem doneTx : Statement .doneTx := by simp only [Statement]; decide

theorem doneDrop : Statement .doneDrop := by simp only [Statement]; decide

theorem rxFlush : Statement .rxFlush := by simp only [Statement]; decide

end Sys2Proof.Laws.EncodedFields
end

