-- ==== Sys2Proof/Laws/Step.lean ====
section
/-! SUPPORT. Said once: everything one step can do, in the terms the statements use; and the two ways of running cycles agree. -/

namespace Sys2Proof.Machine

/-- A step that answers a next state is a reset, or the host phase of the next input followed by the later phases. -/
theorem step_cases {s t : State} (h : step s = .next t) :
    (s.nextInput.rst = true ∧ t = resetCycle s.beginCycle) ∨
      (s.nextInput.rst = false ∧ ∃ u, hostPhase s.nextInput.host s.beginCycle = .next u ∧
        t = laterPhases s.nextInput.rx s.nextInput.tick u) :=
  cycle_cases h

/-- The command of a cycle that writes a defined word to CMD. -/
theorem cycleCommand_of_writesReg {i : CycleInput} {w : Word} (h : writesReg i .cmd w) :
    cycleCommand i = (decodeWord w).instr? := by
  simp [cycleCommand, h.1, h.2]

/-- A write of another register executes no command. -/
theorem cycleCommand_of_other_register {i : CycleInput} {r : Reg} {v : Word} (h : writesReg i r v) (ne : r ≠ .cmd) :
    cycleCommand i = none := by
  have : r.offset ≠ Reg.cmd.offset := by cases r <;> first | decide | exact absurd rfl ne
  simp [cycleCommand, h.1, h.2, this]

theorem writesReg_of_cycleCommand {i : CycleInput} {j : Instr} (h : cycleCommand i = some j) :
    ∃ w, writesReg i .cmd w ∧ decodeWord w = .ok j := by
  unfold cycleCommand at h
  split at h
  · rename_i off w hr hh
    split at h
    · rename_i eq
      refine ⟨w, ⟨hr, by rw [hh, eq]⟩, ?_⟩
      cases d : decodeWord w <;> simp [d, Decoded.instr?] at h
      rw [h]
    · simp at h
  · simp at h

/-- Everything phase 1 can leave: an answer, a byte stored, a register written, a cause recorded, or a command run. -/
theorem hostPhase_effects {i : CycleInput} {s u : State} (rst : i.rst = false) (h : hostPhase i.host s = .next u) :
    (∃ a, cycleCommand i = none ∧ u = s.setAnswer a) ∨
    (∃ off v, i.host = some { off := off, op := .write1 v } ∧ u = (writeByteAt off v s).setAnswer .wrote) ∨
    (∃ v, writesReg i .ctrl v ∧ u = (writeCtrl (v.getLsbD 0) (v.getLsbD 1) s).setAnswer .wrote) ∨
    (∃ v, writesReg i .status v ∧ u = (writeStatus v s).setAnswer .wrote) ∨
    (∃ v, writesReg i .plen v ∧ u = (s.setPlen (v.setWidth 9)).setAnswer .wrote) ∨
    (∃ v, writesReg i .elen v ∧ u = (s.setElen (v.setWidth 9)).setAnswer .wrote) ∨
    (∃ v, writesReg i .idleTo v ∧ u = (s.setIdleTo v).setAnswer .wrote) ∨
    (∃ v, writesReg i .diag v ∧ u = (s.setDiag 0 0).setAnswer .wrote) ∨
    (∃ w c, writesReg i .cmd w ∧ c ≠ ErrCause.noError ∧ cycleCommand i = none ∧
      u = (s.raiseCmdError c).setAnswer .wrote) ∨
    (∃ w j x, writesReg i .cmd w ∧ cycleCommand i = some j ∧ exec j s = .next x ∧ u = x.setAnswer .wrote) := by
  rcases hostPhase_cases h with ⟨hn, rfl⟩ | ⟨a, ha, hu⟩
  · exact .inl ⟨u.answer, by simp [cycleCommand, hn], rfl⟩
  obtain ⟨_, ⟨n, hop, rfl⟩ | ⟨v, hv, rfl⟩ | ⟨v, x, hv, hx, rfl⟩⟩ := hostAccess_cases hu
  · exact .inl ⟨_, by rw [show a = { off := a.off, op := .read n } by rw [← hop]] at ha; simp [cycleCommand, ha], rfl⟩
  · exact .inr (.inl ⟨a.off, v, by rw [ha, ← hv], rfl⟩)
  · have host : ∀ r : Reg, a.off = r.offset → writesReg i r v := fun r hr => ⟨rst, by rw [ha, ← hv, ← hr]⟩
    rcases writeWordAt_cases hx with ⟨o, rfl⟩ | ⟨o, rfl⟩ | ⟨o, rfl⟩ | ⟨o, hc⟩ | ⟨o, rfl⟩ | ⟨o, rfl⟩ | ⟨o, rfl⟩ | ⟨o, rfl⟩
    · rw [show a = { off := a.off, op := .write4 v } by rw [← hv]] at ha
      exact .inl ⟨_, by simp [cycleCommand, rst, ha, o], rfl⟩
    · exact .inr (.inr (.inl ⟨v, host _ o, rfl⟩))
    · exact .inr (.inr (.inr (.inl ⟨v, host _ o, rfl⟩)))
    · have cmd := cycleCommand_of_writesReg (host .cmd o)
      rcases command_cases hc with ⟨j, hj, hx⟩ | ⟨hj, rfl⟩ | ⟨hj, rfl⟩
      · exact .inr (.inr (.inr (.inr (.inr (.inr (.inr (.inr (.inr
          ⟨v, j, x, host .cmd o, by rw [cmd, hj]; rfl, hx, rfl⟩))))))))
      · exact .inr (.inr (.inr (.inr (.inr (.inr (.inr (.inr (.inl
          ⟨v, _, host .cmd o, by simp, by rw [cmd, hj]; rfl, rfl⟩))))))))
      · exact .inr (.inr (.inr (.inr (.inr (.inr (.inr (.inr (.inl
          ⟨v, _, host .cmd o, by simp, by rw [cmd, hj]; rfl, rfl⟩))))))))
    · exact .inr (.inr (.inr (.inr (.inl ⟨v, host _ o, rfl⟩))))
    · exact .inr (.inr (.inr (.inr (.inr (.inl ⟨v, host _ o, rfl⟩)))))
    · exact .inr (.inr (.inr (.inr (.inr (.inr (.inl ⟨v, host _ o, rfl⟩))))))
    · exact .inr (.inr (.inr (.inr (.inr (.inr (.inr (.inl ⟨v, host _ o, rfl⟩)))))))

/-- To show a property of the state the host phase leaves, show it for each of the things the host phase can do. -/
theorem hostPhase_property {i : CycleInput} {s u : State} (rst : i.rst = false) (h : hostPhase i.host s = .next u)
    (P : State → Prop)
    (answered : ∀ a, cycleCommand i = none → P (s.setAnswer a))
    (stored : ∀ off v, i.host = some { off := off, op := .write1 v } → P ((writeByteAt off v s).setAnswer .wrote))
    (ctrl : ∀ v, writesReg i .ctrl v → P ((writeCtrl (v.getLsbD 0) (v.getLsbD 1) s).setAnswer .wrote))
    (status : ∀ v, writesReg i .status v → P ((writeStatus v s).setAnswer .wrote))
    (plen : ∀ v, writesReg i .plen v → P ((s.setPlen (v.setWidth 9)).setAnswer .wrote))
    (elen : ∀ v, writesReg i .elen v → P ((s.setElen (v.setWidth 9)).setAnswer .wrote))
    (idleTo : ∀ v, writesReg i .idleTo v → P ((s.setIdleTo v).setAnswer .wrote))
    (diag : ∀ v, writesReg i .diag v → P ((s.setDiag 0 0).setAnswer .wrote))
    (refused : ∀ w c, writesReg i .cmd w → c ≠ ErrCause.noError →
      (cycleCommand i = some .doneTx ∨ cycleCommand i = some .doneDrop → s.runState ≠ .dispatch) →
      P ((s.raiseCmdError c).setAnswer .wrote))
    (nop : cycleCommand i = some .nop → P (s.setAnswer .wrote))
    (crcInit : cycleCommand i = some .crcInit → P ((s.setCrcAcc crcInitial).setAnswer .wrote))
    (crcFeed : ∀ a, cycleCommand i = some (.crcFeed a) → P ((s.setCrcAcc (crcStep s.crcAcc a)).setAnswer .wrote))
    (crcCompute : cycleCommand i = some .crcCompute → P ((s.setCrcAcc (crc16 s.parseFrame)).setAnswer .wrote))
    (crcVerifyShort : cycleCommand i = some .crcVerify → P ((s.setVok false).setAnswer .wrote))
    (crcVerify : ∀ c v, cycleCommand i = some .crcVerify → P (((s.setCrcAcc c).setVok v).setAnswer .wrote))
    (decode : cycleCommand i = some .decode → s.plen.toNat ≤ 256 → P (s.decodeParseBuffer.setAnswer .wrote))
    (encode : ∀ a b, cycleCommand i = some (.encode a b) → s.elen.toNat ≤ 252 →
      P ((s.loadTx (responseFrame a b (s.ebufBytes s.elen.toNat))).setAnswer .wrote))
    (encodeExc : ∀ a b c, cycleCommand i = some (.encodeExc a b c) → P ((s.loadTx (exceptionFrame a b c)).setAnswer .wrote))
    (doneTx : cycleCommand i = some .doneTx → s.runState = .dispatch →
      P ((endDispatch (s.emit s.txBuffer)).setAnswer .wrote))
    (doneDrop : cycleCommand i = some .doneDrop → s.runState = .dispatch → P ((endDispatch s).setAnswer .wrote))
    (rxFlush : cycleCommand i = some .rxFlush → P ((s.setRxq []).setAnswer .wrote)) : P u := by
  rcases hostPhase_effects rst h with ⟨a, none, rfl⟩ | ⟨off, v, hi, rfl⟩ | ⟨v, hi, rfl⟩ | ⟨v, hi, rfl⟩ | ⟨v, hi, rfl⟩ |
    ⟨v, hi, rfl⟩ | ⟨v, hi, rfl⟩ | ⟨v, hi, rfl⟩ | ⟨w, c, hi, hc, none, rfl⟩ | ⟨w, j, x, hi, cmd, hx, rfl⟩
  · exact answered a none
  · exact stored off v hi
  · exact ctrl v hi
  · exact status v hi
  · exact plen v hi
  · exact elen v hi
  · exact idleTo v hi
  · exact diag v hi
  · exact refused w c hi hc (by simp [none])
  rcases exec_cases hx with ⟨c, hc, rfl, hd⟩ | ⟨rfl, rfl⟩ | ⟨rfl, rfl⟩ | ⟨a, rfl, rfl⟩ | ⟨rfl, rfl⟩ |
    ⟨rfl, rfl | ⟨c, v, rfl⟩⟩ | ⟨rfl, le, rfl⟩ | ⟨a, b, rfl, le, rfl⟩ | ⟨a, b, c, rfl, rfl⟩ | ⟨rfl, d, rfl⟩ |
    ⟨rfl, d, rfl⟩ | ⟨rfl, rfl⟩
  · exact refused w c hi hc (by rw [cmd]; simpa using hd)
  · exact nop cmd
  · exact crcInit cmd
  · exact crcFeed a cmd
  · exact crcCompute cmd
  · exact crcVerifyShort cmd
  · exact crcVerify c v cmd
  · exact decode cmd le
  · exact encode a b cmd le
  · exact encodeExc a b c cmd
  · exact doneTx cmd d
  · exact doneDrop cmd d
  · exact rxFlush cmd

/-- `runCycles` is the host's own run of the machine. -/
theorem runCycles_eq_coreRun (n : Nat) (s : State) : runCycles n s = Host.Core.run Sys2Proof.core n s := by
  induction n generalizing s with
  | zero => rfl
  | succ n ih =>
    have : Sys2Proof.core.step s = step s := rfl
    simp only [runCycles, Host.Core.run, this]
    cases step s with
    | next t => exact ih t
    | fault r => rfl
    | refused r => rfl

/-- Cycles one after another: the first `n`, then the rest. -/
theorem runCycles_add {m n : Nat} {s t : State} (h : runCycles n s = .next t) : runCycles (n + m) s = runCycles m t := by
  induction n generalizing s with
  | zero =>
    simp only [runCycles, Host.Outcome.next.injEq] at h
    rw [Nat.zero_add, h]
  | succ n ih =>
    rw [Nat.succ_add]
    simp only [runCycles] at h ⊢
    cases hs : step s with
    | next u => rw [hs] at h; exact ih h
    | fault r => rw [hs] at h; simp at h
    | refused r => rw [hs] at h; simp at h

/-- The start of a cycle whose input is listed. -/
theorem beginCycle_of_inputs {s : State} {i : CycleInput} {rest : List CycleInput} (h : s.inputs = i :: rest) :
    s.beginCycle = { s with inputs := rest, answer := .silent, txFrame := none } := by
  simp [State.beginCycle, h, State.setInputs, State.clearOutputs]

/-- A cycle without reset and host access goes straight to its later phases. -/
theorem cycle_without_host {i : CycleInput} (h : lineOnly i) (s : State) : cycle i s = .next (laterPhases i.rx i.tick s) := by
  obtain ⟨rst, host⟩ := h
  simp [cycle, rst, host, hostPhase]

/-- A step whose listed input makes no reset and no host access. -/
theorem step_lineOnly {s : State} {i : CycleInput} {rest : List CycleInput} (h : s.inputs = i :: rest) (quiet : lineOnly i) :
    step s = .next (laterPhases i.rx i.tick { s with inputs := rest, answer := .silent, txFrame := none }) := by
  have : s.nextInput = i := by simp [State.nextInput, h]
  rw [step, this, beginCycle_of_inputs h, cycle_without_host quiet]

end Sys2Proof.Machine
end

