-- ==== Sys2Proof/Tests/Slice0.lean ====
section
/-! SUPPORT. Tests, and a witness for the hypotheses of each statement. Expected values are those of spec/95_test_vectors.md (vector numbers in the docstrings) or are written out by hand from the encodings of R80 to R82. -/

namespace Sys2Proof.Tests

open Sys2Proof.Machine

/-! ## Helpers -/

/-- The next state, if there is one. -/
def nextOf : Host.Outcome State Fault Refusal → Option State
  | .next t => some t
  | .fault _ => none
  | .refused _ => none

/-- What a property says of the next state; false where there is none. -/
def after (o : Host.Outcome State Fault Refusal) (p : State → Bool) : Bool := (nextOf o).elim false p

/-- The outcome is the bus error. -/
def busErrored : Host.Outcome State Fault Refusal → Bool
  | .fault .busError => true
  | .next _ => false
  | .refused _ => false

/-- The reset state with bytes in PBUF and PLEN their number. -/
def withPbuf (bs : List Byte) : State :=
  { State.reset with mem := Memory.writeBytes [] 0x100 bs, plen := BitVec.ofNat 9 bs.length }

/-- The reset state with bytes in EBUF and ELEN their number. -/
def withEbuf (bs : List Byte) : State :=
  { State.reset with mem := Memory.writeBytes [] 0x200 bs, elen := BitVec.ofNat 9 bs.length }

/-- The running loop in a state, with received bytes. -/
def running (r : RunState) (q : List Byte) : State := { State.reset with runState := r, run := true, rxq := q }

/-- A host access with a line byte and a tick. -/
def input (host : Option HostAccess) (rx : Option Byte) (tick : Bool) : CycleInput := ⟨false, host, rx, tick⟩

/-- A 32-bit write. -/
def wr (off : Offset) (v : Word) : Option HostAccess := some ⟨off, .write4 v⟩

/-- One step with this input. -/
def stepWith (i : CycleInput) (s : State) : Host.Outcome State Fault Refusal := step { s with inputs := [i] }

/-- The read request the worked examples use (S8, V2.2). -/
def request : List Byte := [0x01, 0x03, 0x00, 0x00, 0x00, 0x02, 0xC4, 0x0B]

/-! ## Well-formedness smoke: an ill-formed word for each check, and the well-formed one beside it (R81, R83) -/

theorem smoke_reserved_op_refused : (⟨0x05, 0, 0, 0⟩ : CmdFields).wellFormed = false ∧
    (⟨0xFF, 0, 0, 0⟩ : CmdFields).wellFormed = false ∧ (⟨0x22, 1, 3, 2⟩ : CmdFields).wellFormed = false := by decide
theorem smoke_cmd0_fields_refused : (⟨0x10, 1, 0, 0⟩ : CmdFields).wellFormed = false ∧
    (⟨0x10, 0, 1, 0⟩ : CmdFields).wellFormed = false ∧ (⟨0x10, 0, 0, 1⟩ : CmdFields).wellFormed = false ∧
    (⟨0x10, 0, 0, 0⟩ : CmdFields).wellFormed = true := by decide
theorem smoke_cmdA_fields_refused : (⟨0x02, 7, 1, 0⟩ : CmdFields).wellFormed = false ∧
    (⟨0x02, 7, 0, 1⟩ : CmdFields).wellFormed = false ∧ (⟨0x02, 7, 0, 0⟩ : CmdFields).wellFormed = true := by decide
theorem smoke_cmdAB_field_refused : (⟨0x20, 1, 3, 1⟩ : CmdFields).wellFormed = false ∧
    (⟨0x20, 1, 3, 0⟩ : CmdFields).wellFormed = true ∧ (⟨0x21, 1, 3, 2⟩ : CmdFields).wellFormed = true := by decide
theorem smoke_loadp_too_long : Pseudo.wellFormed (.loadp (List.replicate 257 0)) = false ∧
    Pseudo.wellFormed (.loadp (List.replicate 256 0)) = true := by decide +kernel
theorem smoke_loade_too_long : Pseudo.wellFormed (.loade (List.replicate 253 0)) = false ∧
    Pseudo.wellFormed (.loade (List.replicate 252 0)) = true := by decide +kernel
theorem smoke_rxframe_length : Pseudo.wellFormed (.rxframe (request.take 7)) = false ∧
    Pseudo.wellFormed (.rxframe request) = true := by decide

/-! ## Decoding: each command's word from bits CCCCCCCC BBBBBBBB AAAAAAAA OOOOOOOO (R80 to R82) -/

theorem test_decode_nop : decodeWord 0b00000000_00000000_00000000_00000000#32 = .ok .nop := by decide
theorem test_decode_crcInit : decodeWord 0b00000000_00000000_00000000_00000001#32 = .ok .crcInit := by decide
theorem test_decode_crcFeed : decodeWord 0b00000000_00000000_10000011_00000010#32 = .ok (.crcFeed 0x83) := by decide
theorem test_decode_crcCompute : decodeWord 0b00000000_00000000_00000000_00000011#32 = .ok .crcCompute := by decide
theorem test_decode_crcVerify : decodeWord 0b00000000_00000000_00000000_00000100#32 = .ok .crcVerify := by decide
theorem test_decode_decode : decodeWord 0b00000000_00000000_00000000_00010000#32 = .ok .decode := by decide
theorem test_decode_encode : decodeWord 0b00000000_00000011_00010001_00100000#32 = .ok (.encode 0x11 0x03) := by decide
theorem test_decode_encodeExc :
    decodeWord 0b00000010_00000101_10010001_00100001#32 = .ok (.encodeExc 0x91 0x05 0x02) := by decide
theorem test_decode_doneTx : decodeWord 0b00000000_00000000_00000000_00110000#32 = .ok .doneTx := by decide
theorem test_decode_doneDrop : decodeWord 0b00000000_00000000_00000000_00110001#32 = .ok .doneDrop := by decide
theorem test_decode_rxFlush : decodeWord 0b00000000_00000000_00000000_01000000#32 = .ok .rxFlush := by decide
theorem test_decode_reserved : decodeWord 0x00000105#32 = .reservedOp ∧ decodeWord 0x00010002#32 = .reservedField ∧
    decodeWord 0x01030120#32 = .reservedField := by decide
theorem test_decodeTableWord : decodeTableWord 32 0x02030121 = some (.encodeExc 0x01 0x03 0x02) ∧
    decodeTableWord 8 0x40 = some .rxFlush ∧ decodeTableWord 32 0xFF = none := by decide

/-! ## The CRC unit -/

/-- V1.1 to V1.4. -/
theorem test_crcStep : crcStep 0x0000 0x00 = 0x0000 ∧ crcStep 0x0000 0x01 = 0xC0C1 ∧ crcStep 0xFFFF 0xFF = 0x00FF ∧
    crcStep 0x1234 0x56 = 0xE993 := by decide +kernel
/-- V1.5, V1.7, V1.9, V1.10. -/
theorem test_crc16 : crc16 [] = 0xFFFF ∧ crc16 [0x31, 0x32, 0x33, 0x34, 0x35, 0x36, 0x37, 0x38, 0x39] = 0x4B37 ∧
    crc16 [0xF7, 0x03, 0x13, 0x89, 0x00, 0x0A] = 0x3504 ∧ crc16 request = 0x0000 := by decide +kernel
/-- V1.7 on the serial register. -/
theorem test_serialCrc : serialCrc [0x31, 0x32, 0x33, 0x34, 0x35, 0x36, 0x37, 0x38, 0x39] = 0x4B37 := by decide +kernel
/-- V1.11. -/
theorem test_crcInit : after (exec .crcInit { State.reset with crcAcc := 0x1234 }) (·.crcAcc = 0xFFFF) := by decide
/-- V1.12. -/
theorem test_crcFeed : after (exec (.crcFeed 0x01) State.reset) (·.crcAcc = 0x807E) := by decide +kernel
/-- V1.14, V1.15. -/
theorem test_crcCompute : after (exec .crcCompute State.reset) (·.crcAcc = 0xFFFF) ∧
    after (exec .crcCompute (withPbuf request)) (·.crcAcc = 0x0000) := by decide +kernel
/-- V1.16. -/
theorem test_crcCompute_length : after (exec .crcCompute { State.reset with plen := 300, crcAcc := 0x807E })
    (fun t => t.crcAcc = 0x807E ∧ t.statusWord = 0x100 ∧ t.errCause = .length) := by decide
/-- V1.17, V1.18. -/
theorem test_crcVerify : after (exec .crcVerify (withPbuf request)) (fun t => t.crcAcc = 0x0BC4 ∧ t.statusWord = 0x8) ∧
    after (exec .crcVerify (withPbuf [0x01, 0x03, 0x00, 0x00, 0x00, 0x02, 0x0B, 0xC4]))
      (fun t => t.crcAcc = 0x0BC4 ∧ t.statusWord = 0x0) := by decide +kernel
/-- V1.19, V1.20, V1.21. -/
theorem test_crcVerify_short : after (exec .crcVerify (withPbuf [0xFF, 0xFF])) (fun t => t.crcAcc = 0xFFFF ∧ t.vok) ∧
    after (exec .crcVerify { withPbuf [0x01] with crcAcc := 0x0BC4, vok := true })
      (fun t => t.crcAcc = 0x0BC4 ∧ t.vok = false) := by decide +kernel

/-! ## The frame codec -/

/-- V2.2, V1.22. -/
theorem test_decode_request : after (exec .decode (withPbuf request)) (fun t =>
    t.parsed.pstatWord = 0x11 ∧ t.parsed.phdrWord = 0x00040301 ∧ t.parsed.pfldWord = 0x00020000 ∧
    t.parsed.pcrcWord = 0x0BC40BC4 ∧ t.crcAcc = 0xFFFF) := by decide +kernel
/-- V2.3, V2.8. -/
theorem test_decode_mismatch_and_unknown :
    after (exec .decode (withPbuf [0x01, 0x03, 0x00, 0x00, 0x00, 0x02, 0x0B, 0xC4])) (fun t =>
      t.parsed.pstatWord = 0x3 ∧ t.parsed.phdrWord = 0 ∧ t.parsed.pfldWord = 0 ∧ t.parsed.pcrcWord = 0x0BC4C40B) ∧
    after (exec .decode (withPbuf [0x01, 0x06, 0x00, 0x01, 0x00, 0x03, 0x98, 0x0B])) (fun t =>
      t.parsed.pstatWord = 0x1 ∧ t.parsed.phdrWord = 0x00040601 ∧ t.parsed.pfldWord = 0 ∧
      t.parsed.pcrcWord = 0x0B980B98) := by decide +kernel
/-- V2.14. -/
theorem test_encode : after (exec (.encode 0x01 0x03) (withEbuf [0x04, 0x12, 0x34, 0x56, 0x78])) (fun t =>
    t.txBuffer = [0x01, 0x03, 0x04, 0x12, 0x34, 0x56, 0x78, 0x81, 0x07] ∧ t.tlen = 9) := by decide +kernel
/-- V2.17's length, V2.18. -/
theorem test_encode_limits :
    after (exec (.encode 0x01 0x03) { State.reset with elen := 252 }) (fun t => t.tlen = 256) ∧
    after (exec (.encode 0x01 0x03) { State.reset with elen := 253 }) (fun t => t.tlen = 0 ∧ t.errCause = .length) := by
  decide +kernel
/-- V2.20, V2.22. -/
theorem test_encodeExc : after (exec (.encodeExc 0x01 0x03 0x02) State.reset) (fun t =>
      t.txBuffer = [0x01, 0x83, 0x02, 0xC0, 0xF1] ∧ t.tlen = 5) ∧
    after (exec (.encodeExc 0x01 0x83 0x03) State.reset) (fun t => t.txBuffer = [0x01, 0x83, 0x03, 0x01, 0x31]) := by
  decide +kernel

/-! ## The loop and its commands -/

/-- V4.7, and P2's kind of exchange: the transmit buffer leaves and the loop polls again. -/
theorem test_doneTx : after (exec .doneTx { running .dispatch [] with mem := [(0x300, 0x01), (0x302, 0x40)], tlen := 3 })
      (fun t => t.txLog = [[0x01, 0x00, 0x40]] ∧ t.runState = .polling) ∧
    after (exec .doneTx (running .polling [])) (fun t => t.errCause = .state ∧ t.statusWord = 0x101 ∧ t.txLog = []) := by
  decide
/-- V4.6, V3.5's pending stop not cancelled. -/
theorem test_doneDrop : after (exec .doneDrop State.reset) (fun t => t.errCause = .state ∧ t.statusWord = 0x100) ∧
    after (exec .doneDrop { State.reset with runState := .dispatch }) (fun t => t.runState = .stopped ∧ t.txLog = []) := by
  decide
/-- V3.4, cycle 18: DONE_DROP recaptures in its own cycle. -/
theorem test_doneDrop_recaptures : after (stepWith (commandInput 0x31) { running .dispatch request with ie := true })
    (fun t => t.statusWord = 0x7 ∧ t.rxq = [] ∧ t.parsed.pst = .ok) := by decide +kernel
/-- V3.11. -/
theorem test_rxFlush : after (stepWith (input (wr 0x008 0x40) (some 0x09) false) (running .polling [0x01, 0x02]))
    (·.rxq = [0x09]) := by decide
/-- R163. -/
theorem test_nop : after (exec .nop (withPbuf request)) (· = withPbuf request) := by decide
/-- V3.1, cycles 4 and 5: the flush comes when ELAPSED exceeds IDLE_TO, and an empty FIFO is not counted. -/
theorem test_watchdog : after (stepWith (input none none true) { running .polling [] with idleTo := 2, elapsed := 1 })
      (fun t => t.elapsed = 2) ∧
    after (stepWith (input none none true) { running .polling [] with idleTo := 2, elapsed := 2 })
      (fun t => t.elapsed = 0 ∧ t.diagWord = 0) := by decide
/-- V3.2, cycle 4. -/
theorem test_watchdog_counts : after (stepWith (input none none true) { running .polling [0x55] with idleTo := 0 })
    (fun t => t.rxq = [] ∧ t.diagWord = 0x00010000 ∧ t.statusWord = 0x1) := by decide
/-- V3.12: capture wins over the flush. -/
theorem test_capture_wins : after (stepWith (input none (some 0x0B) true)
      { running .polling (request.take 7) with idleTo := 2, elapsed := 2 })
    (fun t => t.lstate = 3 ∧ t.elapsed = 0 ∧ t.diagWord = 0) := by decide +kernel
/-- V3.13. -/
theorem test_elapsed_saturates : after (stepWith (input none none true)
      { running .polling [0x01] with idleTo := 0xFFFFFFFF, elapsed := 0xFFFFFFFF })
    (fun t => t.elapsed = 0xFFFFFFFF ∧ t.rxq = [0x01]) := by decide
/-- V3.14: FERR_CNT wraps. -/
theorem test_ferr_wraps : after (stepWith idleInput
      { running .polling [0x01, 0x03, 0x00, 0x00, 0x00, 0x02, 0xC4, 0x0C] with ferrCnt := 0xFFFF })
    (fun t => t.diagWord = 0 ∧ t.lstate = 1) := by decide +kernel
/-- V3.8, V3.9. -/
theorem test_overflow_wins : after (stepWith (input (wr 0x004 0x200) (some 0x01) false)
      { State.reset with rxq := List.replicate 256 0, rxOvf := true })
    (fun t => t.statusWord = 0x200 ∧ t.rxcnt = 256) := by decide +kernel

/-! ## The host port and reset -/

/-- V4.9 to V4.16. -/
theorem test_bus_errors :
    busErrored (hostAccess ⟨0x000, .read .one⟩ State.reset) ∧ busErrored (hostAccess ⟨0x004, .write2 0⟩ State.reset) ∧
    busErrored (hostAccess ⟨0x002, .read .four⟩ State.reset) ∧ busErrored (hostAccess ⟨0x009, .write4 0⟩ State.reset) ∧
    busErrored (hostAccess ⟨0x100, .read .four⟩ State.reset) ∧ busErrored (hostAccess ⟨0x200, .write2 0⟩ State.reset) ∧
    busErrored (hostAccess ⟨0x300, .read .four⟩ State.reset) ∧ busErrored (hostAccess ⟨0x0FF, .read .one⟩ State.reset) := by
  decide
/-- V4.17 to V4.20, V4.25: what is ignored. -/
theorem test_ignored_writes : after (hostAccess ⟨0x040, .write4 0xFFFFFFFF⟩ State.reset) (readWordAt · 0x040 = 0) ∧
    after (hostAccess ⟨0x2FC, .write1 0x55⟩ State.reset) (readByteAt · 0x2FC = 0) ∧
    after (hostAccess ⟨0x300, .write1 0x55⟩ State.reset) (readByteAt · 0x300 = 0) ∧
    after (hostAccess ⟨0x010, .write4 0x1234⟩ State.reset) (readWordAt · 0x010 = 0xFFFF) ∧
    after (hostAccess ⟨0x008, .read .four⟩ State.reset) (·.answer = .word 0) := by decide
/-- V4.21, V4.22. -/
theorem test_plen_low_bits : after (hostAccess ⟨0x014, .write4 0x3FF⟩ State.reset) (readWordAt · 0x014 = 0x1FF) ∧
    after (hostAccess ⟨0x014, .write4 0xFFFFFE08⟩ State.reset) (readWordAt · 0x014 = 0x8) := by decide
/-- V4.2 to V4.5. -/
theorem test_cause_order : after (command 0x00000105 State.reset) (·.errCause = .reservedOp) ∧
    after (command 0x01000004 State.reset) (·.errCause = .reservedField) ∧
    after (command 0x00000110 { State.reset with plen := 257 }) (·.errCause = .reservedField) ∧
    after (command 0x00000130 State.reset) (·.errCause = .reservedField) := by decide
/-- V4.23, V4.24. -/
theorem test_status_w1c :
    after (hostAccess ⟨0x004, .write4 0x200⟩ (State.reset.raiseCmdError .reservedOp))
      (fun t => t.statusWord = 0x100 ∧ t.errCause.code = 1) ∧
    after (hostAccess ⟨0x004, .write4 0x100⟩ (State.reset.raiseCmdError .reservedOp))
      (fun t => t.statusWord = 0 ∧ t.errCause.code = 0) := by decide
/-- V3.16. -/
theorem test_ctrl_start : after (hostAccess ⟨0x000, .write4 0xFFFFFFFF⟩ State.reset)
    (fun t => t.ctrlWord = 3 ∧ t.lstate = 1 ∧ t.elapsed = 0) := by decide
/-- V5.3, V5.4. -/
theorem test_reset_cycle : after (stepWith ⟨true, wr 0x008 0x30, some 0x55, true⟩
      { running .dispatch [0x01, 0x02, 0x03] with ie := true, mem := [(0x100, 0x01)], txLog := [[0x01]] })
    (· = { State.reset with txLog := [[0x01]] }) := by decide
/-- The host's check: the very next step runs the word. -/
theorem test_withFetchWord : after (step (State.reset.withFetchWord 32 0x00000102)) (·.crcAcc = 0x807E) ∧
    after (step (State.reset.withFetchWord 32 0x00000030)) (·.errCause = .state) := by decide +kernel

/-! ## Witnesses: states and operands that meet each statement's hypotheses, clause by clause -/

theorem witness_CommandsAndTheirWordsAgree : decodeWord 0xFF83AB21 = .ok (.encodeExc 0xAB 0x83 0xFF) := by decide
theorem witness_DecoderSortsEveryWord : (fieldsOfWord 0x0000FF02).wellFormed = true ∧
    (0x01000040#32).extractLsb' 0 8 ∈ definedOps ∧ (fieldsOfWord 0x01000040).wellFormed = false ∧
    (0x00000041#32).extractLsb' 0 8 ∉ definedOps := by decide
theorem witness_ReservedWordsOnlyRecordTheirCause : (0x00000005#32).extractLsb' 0 8 ∉ definedOps ∧
    (0x000000FF#32).extractLsb' 0 8 ∉ definedOps ∧ (0x01000020#32).extractLsb' 0 8 ∈ definedOps ∧
    (fieldsOfWord 0x01000020).wellFormed = false ∧ after (command 0x00000000 (withPbuf request)) (· = withPbuf request) := by
  decide
/-- The length and state clauses at their edges; 256 and 252 fall under the last clause. -/
theorem witness_FirstApplicableCauseIsReported :
    ((fieldsOfWord 0x03).wellFormed = true ∧ 256 < (257#9).toNat) ∧
    ((fieldsOfWord 0x0020).wellFormed = true ∧ 252 < (253#9).toNat) ∧
    ((fieldsOfWord 0x31).wellFormed = true ∧ State.reset.runState ≠ .dispatch) ∧
    ((fieldsOfWord 0x10).wellFormed = true ∧ (256#9).toNat ≤ 256 ∧ (252#9).toNat ≤ 252) := by decide
theorem witness_EverySingleBitErrorIsDetected : (0 < ([] : List Byte).length + 2 ∧ 7 < 8) ∧
    ((7 < (request.take 6).length + 2) ∧ 0 < 8) ∧ flipBit [0x01, 0x03] 1 7 = [0x01, 0x83] := by decide
theorem witness_IsCmd0Word : (0x00000001#32).extractLsb' 0 8 = (0x00000001#32).extractLsb' 0 8 ∧
    (0x00000101#32).extractLsb' 0 8 = (0x00000001#32).extractLsb' 0 8 ∧ (0x00000101#32) ≠ 0x00000001#32 := by decide
theorem witness_CrcFeedAddsOneByte :
    ((0x0000FF02#32).extractLsb' 0 8 = 0x02 ∧ (0x0000FF02#32).extractLsb' 16 16 = 0#16) ∧
    ((0x0001FF02#32).extractLsb' 0 8 = 0x02 ∧ (0x0001FF02#32).extractLsb' 16 16 ≠ 0#16) := by decide
theorem witness_CrcComputeReadsParseBuffer : 256 < ({ State.reset with plen := 257 } : State).plen.toNat ∧
    ({ State.reset with plen := 256 } : State).plen.toNat ≤ 256 ∧ State.reset.plen = 0#9 := by decide
theorem witness_CrcVerifyChecksParseBuffer : 256 < ({ State.reset with plen := 511 } : State).plen.toNat ∧
    (withPbuf [0x01]).plen.toNat < 2 ∧ (withPbuf [0xFF, 0xFF]).plen = 2#9 ∧
    2 ≤ (withPbuf request).plen.toNat ∧ (withPbuf request).plen.toNat ≤ 256 := by decide
/-- One frame for each clause of R120: too short, CRC mismatch, a known function code, an unknown one. -/
theorem witness_DecodeWritesParsedFieldsOnly :
    (withPbuf (request.take 7)).plen.toNat < 8 ∧
    receivedCrc [0x01, 0x03, 0x00, 0x00, 0x00, 0x02, 0x0B, 0xC4] ≠
      crc16 (coveredBytes [0x01, 0x03, 0x00, 0x00, 0x00, 0x02, 0x0B, 0xC4]) ∧
    receivedCrc request = crc16 (coveredBytes request) ∧
    receivedCrc [0x01, 0x06, 0x00, 0x01, 0x00, 0x03, 0x98, 0x0B] =
      crc16 (coveredBytes [0x01, 0x06, 0x00, 0x01, 0x00, 0x03, 0x98, 0x0B]) := by decide +kernel
theorem witness_EncodeBuildsResponseInTbuf :
    ((0x00030120#32).extractLsb' 0 8 = 0x20 ∧ (0x00030120#32).extractLsb' 24 8 = 0#8) ∧
    (0x01030120#32).extractLsb' 24 8 ≠ 0#8 ∧ 252 < ({ State.reset with elen := 253 } : State).elen.toNat ∧
    ({ State.reset with elen := 252 } : State).elen.toNat ≤ 252 ∧ (withEbuf request).mem.wf = true := by decide
theorem witness_EncodeExcBuildsExceptionInTbuf : (0x02030121#32).extractLsb' 0 8 = 0x21 ∧
    (withEbuf request).mem.wf = true := by decide
/-- The frame of V2.16 copied into a second engine's parse buffer. -/
theorem witness_EncodedFrameDecodesToItsParts :
    after (exec (.encode 0x11 0x05) (withEbuf [0x00, 0xAC, 0xFF, 0x00])) (fun t =>
      let u := withPbuf [0x11, 0x05, 0x00, 0xAC, 0xFF, 0x00, 0x4E, 0x8B]
      decide (u.plen = t.tlen ∧ ∀ k < t.tlen.toNat, Memory.read u.mem (0x100 + k) = Memory.read t.mem (0x300 + k))) ∧
    (withEbuf [0x00, 0xAC, 0xFF, 0x00]).mem.wf = true ∧ (withEbuf [0x00, 0xAC, 0xFF, 0x00]).elen.toNat = 4 := by
  decide +kernel
theorem witness_FrameWithOneWrongBitIsDropped : (request.take 6).length = 6 ∧ crc16 (request.take 6) = 0x0BC4 ∧
    (running .polling (flipBit request 7 7 ++ [0x55])).runState = .polling ∧
    (running .polling (flipBit request 7 7 ++ [0x55])).inputs = [] := by decide +kernel
theorem witness_DoneTxSendsTransmitBuffer : State.reset.runState ≠ .dispatch ∧ (running .dispatch request).runState = .dispatch ∧
    8 ≤ (running .dispatch request).rxq.length ∧ (running .dispatch request).run = true ∧
    (running .dispatch (request.take 7)).rxq.length < 8 ∧
    after (cycle (commandInput 0x30) (running .dispatch (request.take 7))) (fun _ => true) := by decide
theorem witness_DoneDropEndsDispatchSilently : State.reset.runState ≠ .dispatch ∧
    8 ≤ (running .dispatch request).rxq.length ∧ (running .dispatch request).run = true ∧
    after (cycle (commandInput 0x31) (running .dispatch (request.take 7))) (fun _ => true) := by decide
/-- The timer just not expired in POLLING, and another state. -/
theorem witness_RxFlushEmptiesFifo : (running .polling []).elapsed.toNat ≤ (running .polling []).idleTo.toNat ∧
    ({ running .polling [] with elapsed := 10000 } : State).elapsed.toNat ≤ State.reset.idleTo.toNat ∧
    State.reset.runState ≠ .polling := by decide
theorem witness_StepRunsTheWrittenCommand : decodeWord 0x00030120 = .ok (.encode 0x01 0x03) ∧
    ({ State.reset with inputs := [input (wr 0x008 0x00030120) (some 0x01) true] } : State).inputs =
      [⟨false, some ⟨0x008, .write4 0x00030120⟩, some 0x01, true⟩] := by decide
theorem witness_CyclePhasesRunInOrder : idleInput.rst = false ∧ idleInput.host = none ∧
    after (hostAccess ⟨0x3FF, .read .one⟩ State.reset) (fun _ => true) := by decide
theorem witness_ReceivedByteIsQueuedOrLost :
    ({ State.reset with rxq := List.replicate 255 0 } : State).rxq.length < 256 ∧
    256 ≤ ({ State.reset with rxq := List.replicate 256 0 } : State).rxq.length := by decide +kernel
theorem witness_TickCountsWhileTheLoopRuns : (running .dispatch []).runState ≠ .stopped ∧ State.reset.runState = .stopped := by
  decide
theorem witness_CaptureTakesTheEightOldestBytes : (running .polling request).mem.wf = true ∧
    (running .polling request).runState = .polling ∧ 8 ≤ (running .polling request).rxq.length := by decide
theorem witness_WatchdogFlushDiscardsPartialFrame :
    let s := { running .polling (request.take 7) with idleTo := 2, elapsed := 3 }
    s.runState = .polling ∧ s.rxq.length < 8 ∧ s.idleTo.toNat < s.elapsed.toNat := by decide
/-- The three clauses in POLLING at their edges: 8 bytes, an expired timer, a timer just not expired. -/
theorem witness_LoopActsAtMostOncePerCycle : 8 ≤ (running .polling request).rxq.length ∧
    (running .polling (request.take 7)).rxq.length < 8 ∧ (2#32).toNat < (3#32).toNat ∧ (2#32).toNat ≤ (2#32).toNat ∧
    State.reset.runState ≠ .polling := by decide
theorem witness_CtrlWriteStartsAndStopsTheLoop : State.reset.runState = .stopped ∧ (running .polling []).runState = .polling ∧
    (running .dispatch []).runState = .dispatch ∧ (1#32).getLsbD 0 = true ∧ (2#32).getLsbD 0 = false := by decide
/-- DISPATCH under a flush with a byte and a tick in the same cycle. -/
theorem witness_DispatchHoldsUntilDone :
    let s := { running .dispatch request with inputs := [input (wr 0x008 0x40) (some 0x01) true] }
    s.nextInput.rst = false ∧ cycleCommand s.nextInput = some .rxFlush ∧ after (step s) (·.runState = .dispatch) := by decide
theorem witness_LongDispatchIsFollowedByFlush :
    let s := { running .dispatch [0x01] with idleTo := 2, elapsed := 3 }
    s.runState = .dispatch ∧ s.run = true ∧ s.rxq.length < 8 ∧ s.idleTo.toNat < s.elapsed.toNat := by decide
theorem witness_ResetSetsEveryPart :
    ({ running .dispatch request with inputs := [⟨true, none, some 0x01, true⟩] } : State).nextInput.rst = true := by decide
/-- A step that stops and one that goes on; the second condition's access at the edges of the window. -/
theorem witness_OnlyUnacceptedAccessesFault : busErrored (stepWith (input (wr 0x100 0) none false) State.reset) ∧
    accepted 0x100 4 = false ∧ accepted 0x0FC 4 = true ∧ accepted 0x3FF 1 = true ∧
    after (stepWith (input (wr 0x0FC 0) none false) State.reset) (fun _ => true) := by decide
theorem witness_ReadsAnswerAndChangeNothing :
    ((0x0FC#10).toNat < 0x100 ∧ (0x0FC#10).toNat % 4 = 0 ∧ 0x040 ≤ (0x0FC#10).toNat) ∧ 0x100 ≤ (0x100#10).toNat ∧
    (0x2FC ≤ (0x2FF#10).toNat ∧ (0x2FF#10).toNat < 0x300) ∧ (0x2FB#10).toNat < 0x2FC ∧ 0x300 ≤ (0x300#10).toNat := by decide
theorem witness_RegistersReadTheirFields : (running .polling request).rxq.length ≤ 256 := by decide
theorem witness_StatusReadsAndClears : State.reset.runState = .stopped ∧ (running .polling []).rxq.length = 0 ∧
    1 ≤ (running .polling [0x01]).rxq.length ∧ (running .dispatch []).runState = .dispatch ∧
    256 ≤ ({ State.reset with rxq := List.replicate 256 0 } : State).rxq.length := by decide +kernel
theorem witness_HostWritesTakeTheirEffect : after (command 0x30 State.reset) (fun _ => true) ∧
    (0x040 ≤ (0x040#10).toNat ∧ (0x040#10).toNat < 0x100 ∧ (0x040#10).toNat % 4 = 0) ∧ 0x2FC ≤ (0x2FC#10).toNat ∧
    (0x100 ≤ (0x2FB#10).toNat ∧ (0x2FB#10).toNat < 0x2FC) := by decide
theorem witness_RepeatedWriteIsOneWrite :
    after (hostAccess ⟨0x000, .write4 1⟩ State.reset) (fun t => after (hostAccess ⟨0x000, .write4 1⟩ t) (· = t)) ∧
    after (hostAccess ⟨0x100, .write1 5⟩ State.reset) (fun t => after (hostAccess ⟨0x100, .write1 5⟩ t) (· = t)) := by decide
/-- BASE, BASE + 1023 and BASE + 1024. -/
theorem witness_WindowIsDecodedFromBase (op : BusOp) : portAccess Config.base op = some ⟨0, op⟩ ∧
    portAccess (Config.base + 1023) op = some ⟨0x3FF, op⟩ ∧ portAccess (Config.base + 1024) op = none := by
  simp [portAccess, windowSize]
/-- A state with the invariant from which a cycle goes on: a dispatch with a pending byte. -/
theorem witness_EveryCycleKeepsTheInvariant : ∃ s t : State, s.Inv ∧ step s = .next t ∧ s.runState = .dispatch :=
  ⟨running .dispatch [0x01], { running .dispatch [0x01] with inputs := [] },
    by constructor <;> decide, by rfl, rfl⟩
theorem witness_OnlyCrcCommandsWriteCrcAcc :
    after (step (State.reset.withFetchWord 32 0x00000102)) (·.crcAcc ≠ State.reset.crcAcc) := by decide +kernel
/-- ELAPSED moved by a start, by a tick and by a flush. -/
theorem witness_OnlyTicksRestartsAndTheLoopMoveElapsed :
    after (hostAccess ⟨0x000, .write4 1⟩ { State.reset with elapsed := 7 }) (·.elapsed ≠ 7) ∧
    (tickPhase true (running .polling [])).elapsed ≠ (running .polling []).elapsed ∧
    (loopPhase { running .polling [] with idleTo := 2, elapsed := 3 }).elapsed ≠ 3 := by decide
theorem witness_OnlyEncodersWriteTransmitBuffer : after (step (State.reset.withFetchWord 32 0x00000031)) (fun _ => true) ∧
    cycleCommand (commandInput 0x31) = some .doneDrop := by decide
theorem witness_OnlyHostWritesChangeEncoderBuffer :
    after (stepWith (input (wr 0x028 4) none false) State.reset) (·.elen ≠ State.reset.elen) ∧
    after (stepWith (input (some ⟨0x2FB, .write1 7⟩) none false) State.reset) (fun t => Memory.read t.mem (0x200 + 251) ≠ 0) := by
  decide
/-- PBUF and PLEN changed by the host and by a capture. -/
theorem witness_OnlyHostAndCaptureChangeParseBuffer :
    after (stepWith (input (some ⟨0x1FF, .write1 7⟩) none false) State.reset) (fun t => Memory.read t.mem (0x100 + 255) ≠ 0) ∧
    after (stepWith idleInput (running .polling request)) (fun t => Memory.read t.mem 0x100 ≠ 0 ∧ t.plen ≠ 0) := by
  decide +kernel
/-- Each transition: start, stop, into DISPATCH, out of it, reset. -/
theorem witness_LoopStateMovesOnlyByItsRules :
    after (stepWith (input (wr 0x000 1) none false) State.reset) (·.runState = .polling) ∧
    after (stepWith (input (wr 0x000 0) none false) (running .polling [])) (·.runState = .stopped) ∧
    after (stepWith (input none (some 0x0B) false) (running .polling (request.take 7))) (·.runState = .dispatch) ∧
    after (stepWith (commandInput 0x31) (running .dispatch [])) (·.runState ≠ .dispatch) ∧
    after (stepWith ⟨true, none, none, false⟩ (running .dispatch [])) (·.runState = .stopped) := by decide +kernel
theorem witness_FramesLeaveOnlyByDoneTx :
    after (stepWith (commandInput 0x30) (running .dispatch [])) (fun t => t.txFrame = some [] ∧ t.txLog = [[]]) := by decide
/-- Each flag moved by its event. -/
theorem witness_FlagsChangeOnlyByTheirEvents :
    after (stepWith (commandInput 0x04) { State.reset with vok := true }) (·.vok = false) ∧
    after (stepWith (commandInput 0x05) State.reset) (·.cmdErr = true) ∧
    after (stepWith (input (wr 0x004 0x100) none false) (State.reset.raiseCmdError .state)) (·.cmdErr = false) ∧
    after (stepWith (input none (some 1) false) { State.reset with rxq := List.replicate 256 0 }) (·.rxOvf = true) ∧
    after (stepWith (input (wr 0x004 0x200) none false) { State.reset with rxOvf := true }) (·.rxOvf = false) ∧
    after (stepWith (commandInput 0x10) State.reset) (·.parsed ≠ State.reset.parsed) := by decide +kernel
/-- Each counter counting, and at the edges not: a good frame, an empty flush, a byte that meets the flush. -/
theorem witness_DiagCountsDropsAndDiscards :
    after (stepWith idleInput (running .polling (flipBit request 0 0))) (fun t => t.ferrCnt = 1 ∧ t.discCnt = 0) ∧
    after (stepWith idleInput (running .polling request)) (·.ferrCnt = 0) ∧
    after (stepWith (input none (some 0x55) true) { running .polling [] with idleTo := 0 }) (·.discCnt = 1) ∧
    after (stepWith (input none none true) { running .polling [] with idleTo := 0 }) (·.discCnt = 0) := by decide +kernel
theorem witness_InterruptFollowsDispatchAndEnable :
    after (stepWith (input (wr 0x000 3) none false) (running .dispatch [])) (fun t => t.irq = true) ∧
    after (stepWith (commandInput 0x31) { running .dispatch [] with ie := true }) (fun t => t.irq = false) := by decide
theorem witness_NoLineTrafficStopsTheLoop : lineOnly (lineInput (.rx 0x01)) ∧ lineOnly (lineInput .tick) ∧
    lineOnly (input none (some 0x01) true) := by
  unfold lineOnly; decide
/-- IDLE_TO = 2: the first byte, two ticks with an idle cycle and a byte between them, then a tick with a third byte. -/
theorem witness_WatchdogFiresAfterIdleToPlusOneTicks :
    let before := [lineInput .tick, idleInput, lineInput (.rx 0x03), lineInput .tick]
    let last := input none (some 0x00) true
    let s := { running .polling [0x01] with idleTo := 2, inputs := before ++ last :: [idleInput] }
    before.countP (·.tick) = s.idleTo.toNat ∧ (s.rxq ++ (before ++ [last]).filterMap (·.rx)).length = 3 ∧
    s.elapsed = 0 ∧ s.idleTo ≠ 0xFFFFFFFF ∧ last.tick = true ∧ (∀ i ∈ before ++ [last], i.rst = false ∧ i.host = none) ∧
    after (runCycles 4 s) (fun t => t.rxq = [0x01, 0x03] ∧ t.elapsed = 2) ∧
    after (runCycles 5 s) (fun t => t.rxq = [] ∧ t.discCnt = 1 ∧ t.inputs = [idleInput]) := by decide
/-- The lowest IDLE_TO: no tick and no cycle before the one that fires. -/
theorem witness_WatchdogFiresAtFirstTick :
    let s := { running .polling [] with idleTo := 0, inputs := [lineInput .tick] }
    s.inputs = [] ++ lineInput .tick :: [] ∧ after (runCycles 1 s) (fun t => t.elapsed = 0 ∧ t.discCnt = 0) := by decide
theorem witness_WatchdogNeverFiresAtMaximum :
    let s := { running .polling [0x55] with idleTo := 0xFFFFFFFF, elapsed := 0xFFFFFFFE, inputs := List.replicate 2 (lineInput .tick) }
    s.runState = .polling ∧ s.rxq.length < 8 ∧ after (runCycles 2 s) (fun t => t.elapsed = 0xFFFFFFFF ∧ t.rxq = [0x55]) := by decide
/-- IDLE_TO = 0, one stray byte, and the request. -/
theorem witness_SilenceRestoresFrameAlignment :
    let s := { running .polling [0x55] with
      idleTo := 0, inputs := List.replicate 1 (lineInput .tick) ++ request.map (fun b => lineInput (.rx b)) }
    s.mem.wf = true ∧ s.elapsed = 0 ∧ after (runCycles 9 s) (fun t => t.runState = .dispatch ∧ t.parsed.slave = 0x01) := by
  decide +kernel
theorem witness_PseudoInstructionsLoadAndFold :
    let s := { State.reset with inputs := (expandPseudo (.loadp request)).map lineInput }
    let u := { State.reset with inputs := (expandPseudo (.crcbytes (request.take 6))).map lineInput }
    s.runState ≠ .polling ∧ after (runCycles 9 s) (fun t => t.parseFrame = request) ∧
    after (runCycles 7 u) (fun t => t.crcAcc = 0x0BC4) := by decide +kernel
/-- V2.16's frame, sent. -/
theorem witness_SendAnswersTheDispatch :
    let s := { withEbuf [0x00, 0xAC, 0xFF, 0x00] with
      runState := .dispatch, run := true, inputs := (expandPseudo (.send 0x11 0x05)).map lineInput }
    s.mem.wf = true ∧ s.elen.toNat ≤ 252 ∧ s.rxq.length < 8 ∧
    after (runCycles 2 s) (fun t => t.txLog = [[0x11, 0x05, 0x00, 0xAC, 0xFF, 0x00, 0x4E, 0x8B]]) := by decide +kernel

end Sys2Proof.Tests
end

section
/-! PROOFS. STATUS (R24, R26): how its word is laid out, what a write of it leaves, and a byte lost in the same cycle. -/

namespace Sys2Proof.Machine

variable (s : State)

/-! ## STATUS as read -/

theorem readWordAt_offset (r : Reg) : readWordAt s r.offset = readReg s r := by
  rw [readWordAt, regAt_offset]

/-- STATUS bit by bit, in the order of R26's table. -/
theorem statusWord_getLsbD (i : Nat) :
    s.statusWord.getLsbD i =
      if i < 2 then s.lstate.getLsbD i
      else if i = 2 then s.irq
      else if i = 3 then s.vok
      else if i < 8 then false
      else if i = 8 then s.cmdErr
      else if i = 9 then s.rxOvf
      else false := by
  simp only [State.statusWord, BitVec.getLsbD_append, BitVec.getLsbD_ofBool, BitVec.getLsbD_zero]
  rcases Nat.lt_or_ge i 10 with named | reserved
  · interval_cases i <;> rfl
  · grind

theorem statusWord_lstate : s.statusWord.extractLsb' 0 2 = s.lstate := by
  ext i hi
  simp [statusWord_getLsbD, hi]

theorem statusWord_reserved_low : s.statusWord.extractLsb' 4 4 = 0#4 := by
  ext i hi
  simp only [BitVec.getElem_extractLsb', statusWord_getLsbD, BitVec.getElem_zero]
  grind

theorem statusWord_reserved_high : s.statusWord.extractLsb' 10 22 = 0#22 := by
  ext i hi
  simp only [BitVec.getElem_extractLsb', statusWord_getLsbD, BitVec.getElem_zero]
  grind

/-- LSTATE's four codes (R24). -/
theorem lstate_codes :
    (s.runState = .stopped → s.lstate = 0#2) ∧
    (s.runState = .polling → s.rxq.length = 0 → s.lstate = 1#2) ∧
    (s.runState = .polling → 1 ≤ s.rxq.length → s.lstate = 2#2) ∧
    (s.runState = .dispatch → s.lstate = 3#2) := by
  refine ⟨fun h => ?_, fun h empty => ?_, fun h waiting => ?_, fun h => ?_⟩
  · simp [State.lstate, h]
  · simp [State.lstate, h, List.length_eq_zero_iff.mp empty]
  · simp [State.lstate, h, List.length_pos_iff.mp waiting]
  · simp [State.lstate, h]

theorem irq_iff : s.irq = true ↔ s.ie = true ∧ s.runState = .dispatch := by
  simp [State.irq]

/-! ## STATUS as written -/

/-- Every register accepts a 4-byte write (R62). -/
theorem hostAccess_write_register (r : Reg) (v : Word) :
    hostAccess { off := r.offset, op := .write4 v } s = andThen (writeReg r v s) (·.setAnswer .wrote) := by
  have acc : accepted r.offset 4 = true := by cases r <;> decide
  simp only [hostAccess, acceptedAccess, opSize, accessBytes, acc, if_true, busAccess, writeWordAt, regAt_offset]

theorem hostAccess_write_status (v : Word) :
    hostAccess { off := Reg.status.offset, op := .write4 v } s = .next ((writeStatus v s).setAnswer .wrote) :=
  hostAccess_write_register s .status v

/-- The two write-1-to-clear bits as one update of the state (R26). -/
theorem writeStatus_eq (v : Word) :
    writeStatus v s =
      { s with
        cmdErr := if v.getLsbD 8 = true then false else s.cmdErr
        errCause := if v.getLsbD 8 = true then .noError else s.errCause
        rxOvf := if v.getLsbD 9 = true then false else s.rxOvf } := by
  unfold writeStatus
  split_ifs <;> rfl

/-! ## An overflow after the host access of the same cycle -/

theorem laterPhases_rxOvf (rx : Option Byte) (tick : Bool) :
    (laterPhases rx tick s).rxOvf = (linePhase rx s).rxOvf := by
  simp [laterPhases]

variable {s}

theorem linePhase_full (b : Byte) (full : 256 ≤ s.rxq.length) : linePhase (some b) s = s.setRxOvf true := by
  simp [linePhase, rxPush, full]

/-- A cycle without reset whose host access answers: that access, then phases 2 to 4 (R151). -/
theorem cycle_of_hostAccess {a : HostAccess} {u : State} (h : hostAccess a s = .next u) (rx : Option Byte) (tick : Bool) :
    cycle ⟨false, some a, rx, tick⟩ s = .next (laterPhases rx tick u) := by
  simp [cycle, hostPhase, h]

/-- The overflow wins over the clear of the same cycle: the line phase comes after the host phase (R26, R151). -/
theorem overflow_wins_over_status_write (v : Word) (b : Byte) (tick : Bool) (full : 256 ≤ s.rxq.length) :
    ∃ t, cycle ⟨false, some { off := Reg.status.offset, op := .write4 v }, some b, tick⟩ s = .next t ∧ t.rxOvf = true := by
  have still : 256 ≤ ((writeStatus v s).setAnswer .wrote).rxq.length := by simpa using full
  refine ⟨_, cycle_of_hostAccess (hostAccess_write_status s v) (some b) tick, ?_⟩
  rw [laterPhases_rxOvf, linePhase_full b still, setRxOvf_rxOvf]

end Sys2Proof.Machine

open Sys2Proof Sys2Proof.Machine

/-- Settles O38, from STATUS's layout, its write as one update, and the line phase that follows the write. -/
theorem statusReadsAndClears : Obligations.StatusReadsAndClears := by
  unfold Obligations.StatusReadsAndClears
  refine ⟨fun s => ?_, rfl, fun s v => ?_, fun s v b tick full => overflow_wins_over_status_write v b tick full⟩
  · have word : readWordAt s 0x004#10 = s.statusWord := readWordAt_offset s .status
    obtain ⟨stopped, empty, waiting, dispatch⟩ := lstate_codes s
    simp only [word, statusWord_lstate]
    refine ⟨stopped, empty, waiting, dispatch, ?_, statusWord_getLsbD s 3, statusWord_reserved_low s,
      statusWord_getLsbD s 8, statusWord_getLsbD s 9, statusWord_reserved_high s⟩
    rw [← irq_iff, statusWord_getLsbD s 2]
    rfl
  · have written := hostAccess_write_status s v
    rw [writeStatus_eq] at written
    exact written
end

section
/-! PROOFS. The command word's refusals (R81, R83): which words the decoder refuses and with which cause, and that of
all words the one of NOP alone leaves every state unchanged. -/

namespace Sys2Proof

/-! ## The decoder's answer, by the word's OP and fields -/

theorem decodeWord_of_reserved_op {w : Word} (reserved : w.extractLsb' 0 8 ∉ definedOps) :
    decodeWord w = .reservedOp := by
  obtain ⟨_, _, _, _, defined⟩ | ⟨_, _, defined⟩ | ⟨answer, _, _⟩ := decodeFields_cases (fieldsOfWord w)
  · exact absurd defined reserved
  · exact absurd defined reserved
  · exact answer

theorem decodeWord_of_reserved_field {w : Word} (defined : w.extractLsb' 0 8 ∈ definedOps)
    (malformed : (fieldsOfWord w).wellFormed = false) : decodeWord w = .reservedField := by
  obtain ⟨_, _, _, wf, _⟩ | ⟨answer, _, _⟩ | ⟨_, _, reserved⟩ := decodeFields_cases (fieldsOfWord w)
  · simp [malformed] at wf
  · exact answer
  · exact absurd defined reserved

/-- A word that decodes to a command is that command's one word (R84). -/
theorem eq_encodeWord_of_decodeWord {w : Word} {i : Instr} (h : decodeWord w = .ok i) : w = encodeWord i := by
  obtain ⟨j, answer, fields, _, _⟩ | ⟨answer, _, _⟩ | ⟨answer, _, _⟩ := decodeFields_cases (fieldsOfWord w)
  · obtain rfl : i = j := Decoded.ok.inj (h.symm.trans answer)
    rw [encodeWord, ← fields, wordOfFields_fieldsOfWord]
  · cases h.symm.trans answer
  · cases h.symm.trans answer

end Sys2Proof

namespace Sys2Proof.Machine

/-! ## A refused word -/

theorem command_of_reserved_op {w : Word} (reserved : w.extractLsb' 0 8 ∉ definedOps) (s : State) :
    command w s = .next (s.raiseCmdError .reservedOp) := by
  rw [command, decodeWord_of_reserved_op reserved]

theorem command_of_reserved_field {w : Word} (defined : w.extractLsb' 0 8 ∈ definedOps)
    (malformed : (fieldsOfWord w).wellFormed = false) (s : State) :
    command w s = .next (s.raiseCmdError .reservedField) := by
  rw [command, decodeWord_of_reserved_field defined malformed]

theorem raiseCmdError_ne {s : State} (clear : s.cmdErr = false) (c : ErrCause) : s.raiseCmdError c ≠ s :=
  ne_of_apply_ne State.cmdErr (by simp [clear])

/-! ## Every command but NOP changes some state -/

/-- No error recorded, both lengths too long, no dispatch: a command with a check of cause 3 or 4 is refused here.
CRC_ACC and the FIFO are not what CRC_INIT and RX_FLUSH would leave. -/
def refusingState : State := { State.reset with plen := 511, elen := 511, crcAcc := 0, rxq := [0] }

/-- The byte is XORed away and leaves bit 8 alone, which the eight shifts bring down to bit 0 (R100). -/
theorem crcStep_bit8_xor_byte (a : Byte) : crcStep (0x0100#16 ^^^ a.setWidth 16) a = 0x0001#16 := by
  rw [crcStep, BitVec.xor_assoc, BitVec.xor_self, BitVec.xor_zero]
  decide

theorem crcStep_moves_some_acc (a : Byte) : ∃ acc, crcStep acc a ≠ acc := by
  refine ⟨0x0100#16 ^^^ a.setWidth 16, fun fixed => ?_⟩
  rw [crcStep_bit8_xor_byte] at fixed
  have bit8 := congrArg (BitVec.getLsbD · 8) fixed
  simp at bit8

theorem exec_moves_some_state {i : Instr} (notNop : i ≠ .nop) : ∃ s t, exec i s = .next t ∧ t ≠ s := by
  have refused := raiseCmdError_ne (s := refusingState) rfl
  cases i with
  | nop => exact absurd rfl notNop
  | crcCompute | crcVerify | decode | encode a b => exact ⟨refusingState, _, rfl, refused .length⟩
  | doneTx | doneDrop => exact ⟨refusingState, _, rfl, refused .state⟩
  | crcInit => exact ⟨refusingState, _, rfl, ne_of_apply_ne State.crcAcc (by decide)⟩
  | rxFlush => exact ⟨refusingState, _, rfl, ne_of_apply_ne State.rxq (by decide)⟩
  | encodeExc a b c =>
    have tlen : (refusingState.loadTx (exceptionFrame a b c)).tlen = 5#9 := rfl
    exact ⟨refusingState, _, rfl, ne_of_apply_ne State.tlen (by rw [tlen]; decide)⟩
  | crcFeed a =>
    obtain ⟨acc, moved⟩ := crcStep_moves_some_acc a
    exact ⟨{ State.reset with crcAcc := acc }, _, rfl, ne_of_apply_ne State.crcAcc moved⟩

theorem eq_nop_of_exec_keeps_every_state {i : Instr} (keeps : ∀ s, exec i s = .next s) : i = .nop := by
  by_contra notNop
  obtain ⟨s, t, run, moved⟩ := exec_moves_some_state notNop
  exact moved (Host.Outcome.next.inj (run.symm.trans (keeps s)))

theorem command_keeps_every_state_iff (w : Word) : (∀ s : State, command w s = .next s) ↔ w = encodeWord .nop := by
  refine ⟨fun keeps => ?_, fun nop s => by subst nop; rfl⟩
  cases answer : decodeWord w with
  | ok i =>
    have run : ∀ s, exec i s = .next s := fun s => by simpa only [command, answer] using keeps s
    rw [← eq_nop_of_exec_keeps_every_state run]
    exact eq_encodeWord_of_decodeWord answer
  | reservedOp | reservedField =>
    have run := keeps State.reset
    simp only [command, answer, Host.Outcome.next.injEq] at run
    exact absurd run (raiseCmdError_ne rfl _)

end Sys2Proof.Machine

open Sys2Proof Sys2Proof.Machine

/-- Settles O4, from the decoder's answer on a refused word and, for the one hint, from a state that each other command
changes. -/
theorem reservedWordsOnlyRecordTheirCause : Obligations.ReservedWordsOnlyRecordTheirCause := by
  unfold Obligations.ReservedWordsOnlyRecordTheirCause
  have nopWord : encodeWord .nop = 0x00000000#32 := by decide
  refine ⟨fun s w reserved => command_of_reserved_op reserved s,
    fun s w defined malformed => command_of_reserved_field defined malformed s, rfl, rfl, fun w => ?_⟩
  rw [← nopWord]
  exact command_keeps_every_state_iff w
end

section
/-! PROOFS. The words of the CRC commands (R81 to R83, R103 to R106): the one word of a command without operands, and
the words whose OP is that of CRC_FEED. -/

namespace Sys2Proof

/-! ## Fields side by side -/

theorem append_eq_append_iff {v w : Nat} {hi hi' : BitVec v} {lo lo' : BitVec w} :
    hi ++ lo = hi' ++ lo' ↔ hi = hi' ∧ lo = lo' := by
  refine ⟨fun eq => ⟨?_, ?_⟩, fun ⟨his, los⟩ => his ▸ los ▸ rfl⟩
  · simpa only [BitVec.extractLsb'_append_eq_left] using congrArg (BitVec.extractLsb' w v) eq
  · simpa only [BitVec.extractLsb'_append_eq_right] using congrArg (BitVec.extractLsb' 0 w) eq

/-- A word's upper half is zero exactly when its fields B and C are (R80). -/
theorem upperHalf_eq_zero_iff (w : Word) :
    w.extractLsb' 16 16 = 0#16 ↔ w.extractLsb' 16 8 = 0#8 ∧ w.extractLsb' 24 8 = 0#8 := by
  have fields : w.extractLsb' 24 8 ++ w.extractLsb' 16 8 = w.extractLsb' 16 16 :=
    BitVec.extractLsb'_append_extractLsb'_eq_extractLsb' rfl
  rw [← fields, ← BitVec.zero_append_zero (v := 8) (w := 8), append_eq_append_iff, and_comm]

/-! ## The decoder's answer -/

theorem fieldsOfInstr_op_defined (i : Instr) : (fieldsOfInstr i).op ∈ definedOps := by
  cases i <;> simp [fieldsOfInstr, definedOps]

theorem decodeWord_encodeWord (i : Instr) : decodeWord (encodeWord i) = .ok i := by
  rw [decodeWord, encodeWord, fieldsOfWord_wordOfFields]
  cases i <;> rfl

/-- With CRC_FEED's OP, only the fields B and C are checked (R81, R104). -/
theorem decodeWord_of_crcFeed_op {w : Word} (op : w.extractLsb' 0 8 = 0x02#8) :
    decodeWord w = if w.extractLsb' 16 16 = 0#16 then .ok (.crcFeed (w.extractLsb' 8 8)) else .reservedField := by
  simp only [decodeWord, fieldsOfWord, decodeFields, op, decodeCmdA, upperHalf_eq_zero_iff]

end Sys2Proof

namespace Sys2Proof.Machine

/-! ## The command a word executes -/

theorem command_encodeWord (i : Instr) (s : State) : command (encodeWord i) s = exec i s := by
  rw [command, decodeWord_encodeWord]

/-- Where OP alone names the command, one word executes it and every other word of that OP is refused for its fields
(R82, R83). -/
theorem isCmd0Word_encodeWord {i : Instr} (alone : ∀ j, (fieldsOfInstr j).op = (fieldsOfInstr i).op → j = i) :
    IsCmd0Word (encodeWord i) i := by
  intro s w sameOp
  refine ⟨fun same => same ▸ command_encodeWord i s, fun other => ?_⟩
  have op : (fieldsOfWord w).op = (fieldsOfInstr i).op := by
    rw [← fieldsOfWord_wordOfFields (fieldsOfInstr i)]
    exact sameOp
  obtain ⟨j, answer, fields, _, _⟩ | ⟨_, malformed, defined⟩ | ⟨_, _, reserved⟩ := decodeFields_cases (fieldsOfWord w)
  · obtain rfl := alone j (fields ▸ op)
    exact absurd (eq_encodeWord_of_decodeWord answer) other
  · exact command_of_reserved_field defined malformed s
  · exact absurd (op ▸ fieldsOfInstr_op_defined i) reserved

end Sys2Proof.Machine
end

section
/-! PROOFS. The CRC function (R100 to R102): its iterations, what feeding it a value's own two bytes leaves, and the
CRC of a frame that ends in its CRC. -/

namespace Sys2Proof.Machine

theorem crcBits_eq_iterate (k : Nat) (acc : Half) : crcBits k acc = crcBit^[k] acc := by
  induction k generalizing acc with
  | zero => rfl
  | succ k ih => exact ih (crcBit acc)

/-- Iterations that find 0 in every bit they test are shifts alone. -/
theorem crcBits_of_low_bits_clear {k : Nat} {acc : Half} (clear : ∀ i < k, acc.getLsbD i = false) :
    crcBits k acc = acc >>> k := by
  induction k generalizing acc with
  | zero => rfl
  | succ k ih =>
    have shift : crcBit acc = acc >>> 1 := if_neg (by rw [clear 0 k.succ_pos]; decide)
    have rest : ∀ i < k, (acc >>> 1).getLsbD i = false := fun i lt => by
      rw [BitVec.getLsbD_ushiftRight]
      exact clear (1 + i) (by omega)
    rw [crcBits, shift, ih rest, ← BitVec.shiftRight_add, Nat.add_comm]

/-- The accumulator's own low byte clears the 8 bits the iterations test, so its high byte comes down. -/
theorem crcStep_loByte (c : Half) : crcStep c (loByte c) = c >>> 8 := by
  have clear : ∀ i < 8, (c ^^^ (loByte c).setWidth 16).getLsbD i = false := by
    intro i hi
    simp [loByte, hi, Nat.lt_trans hi (by decide : 8 < 16)]
  rw [crcStep, crcBits_of_low_bits_clear clear]
  ext i hi
  simp [loByte]

theorem setWidth_hiByte (c : Half) : (hiByte c).setWidth 16 = c >>> 8 := by
  ext i hi
  simp only [hiByte, BitVec.getElem_setWidth, BitVec.getLsbD_extractLsb', BitVec.getElem_ushiftRight]
  grind

/-- The high byte, fed next, clears the accumulator. -/
theorem crcStep_hiByte (c : Half) : crcStep (c >>> 8) (hiByte c) = 0#16 := by
  rw [crcStep, setWidth_hiByte, BitVec.xor_self]
  rfl

theorem crcFold_leBytes (c : Half) : crcFold c (leBytes c) = 0#16 := by
  rw [leBytes, crcFold_cons, crcStep_loByte, crcFold_cons, crcStep_hiByte, crcFold_nil]

/-- R102 (a). -/
theorem crc16_withCrc (bs : List Byte) : crc16 (withCrc bs) = 0#16 := by
  rw [withCrc, crc16_append, crcFold_leBytes]

end Sys2Proof.Machine

open Sys2Proof Sys2Proof.Machine

/-- Settles O6: `crcBits` is the iterate of one shift; the worked values are computed. -/
theorem crcFunctionIsTheSpecs : Obligations.CrcFunctionIsTheSpecs := by
  unfold Obligations.CrcFunctionIsTheSpecs
  exact ⟨fun acc b => crcBits_eq_iterate 8 (acc ^^^ b.setWidth 16), fun _ => rfl, rfl, by decide +kernel,
    by decide +kernel⟩
end

section
/-! PROOFS. CRC_INIT and CRC_FEED (R103, R104), one by one and as a sequence. -/

namespace Sys2Proof.Machine

theorem exec_crcInit (s : State) : exec .crcInit s = .next (s.setCrcAcc crcInitial) := rfl

theorem exec_crcFeed (a : Byte) (s : State) : exec (.crcFeed a) s = .next (s.setCrcAcc (crcStep s.crcAcc a)) := rfl

theorem runCommands_cons {i : Instr} {s t : State} (run : exec i s = .next t) (is : List Instr) :
    runCommands (i :: is) s = runCommands is t := by
  rw [runCommands, run]

theorem runCommands_crcFeed (bs : List Byte) (s : State) :
    runCommands (bs.map .crcFeed) s = .next (s.setCrcAcc (crcFold s.crcAcc bs)) := by
  induction bs generalizing s with
  | nil => rfl
  | cons b bs ih =>
    rw [List.map_cons, runCommands_cons (exec_crcFeed b s), ih]
    rfl

/-- CRC_INIT and a byte sequence fed leave the sequence's CRC and nothing else (R104). -/
theorem runCommands_crcInit_crcFeed (bs : List Byte) (s : State) :
    runCommands (.crcInit :: bs.map .crcFeed) s = .next (s.setCrcAcc (crc16 bs)) := by
  rw [runCommands_cons (exec_crcInit s), runCommands_crcFeed]
  rfl

theorem isCmd0Word_crcInit : IsCmd0Word (encodeWord .crcInit) .crcInit :=
  isCmd0Word_encodeWord fun j op => by cases j <;> simp [fieldsOfInstr] at op ⊢

end Sys2Proof.Machine

open Sys2Proof Sys2Proof.Machine

/-- Settles O10, from OP 0x01 being CRC_INIT's alone and its one assignment. -/
theorem crcInitSetsInitialValue : Obligations.CrcInitSetsInitialValue := by
  unfold Obligations.CrcInitSetsInitialValue
  exact ⟨isCmd0Word_crcInit, exec_crcInit⟩

/-- Settles O11, from the decoder's answer on CRC_FEED's OP and, for the sequences, from the fold and R102 (a). -/
theorem crcFeedAddsOneByte : Obligations.CrcFeedAddsOneByte := by
  unfold Obligations.CrcFeedAddsOneByte
  refine ⟨fun s w op zero => ?_, fun s w op nonzero => ?_, fun s a => exec_crcFeed a s, by decide +kernel,
    fun s d => ⟨runCommands_crcInit_crcFeed d s, ?_⟩⟩
  · rw [command, decodeWord_of_crcFeed_op op, if_pos zero]
  · rw [command, decodeWord_of_crcFeed_op op, if_neg nonzero]
    rfl
  · have fed := runCommands_crcInit_crcFeed (withCrc d) s
    rw [crc16_withCrc, withCrc, List.map_append] at fed
    exact fed
end

section
/-! PROOFS. CRC_COMPUTE and CRC_VERIFY (R105, R106): the parse buffer's bytes they read, and what they leave, by PLEN. -/

namespace Sys2Proof.Machine

variable {s : State}

/-! ## The frame in the parse buffer -/

theorem byteAt_parseFrame {k : Nat} (inside : k < s.plen.toNat) :
    byteAt s.parseFrame k = Memory.read s.mem (pbufBase + k) :=
  Memory.getD_readBytes inside

theorem coveredBytes_parseFrame : coveredBytes s.parseFrame = s.pbufBytes (s.plen.toNat - 2) := by
  rw [coveredBytes, length_parseFrame]
  exact Memory.take_readBytes (Nat.sub_le ..)

theorem receivedCrc_parseFrame (long : 2 ≤ s.plen.toNat) :
    receivedCrc s.parseFrame =
      u16 (Memory.read s.mem (pbufBase + (s.plen.toNat - 1))) (Memory.read s.mem (pbufBase + (s.plen.toNat - 2))) := by
  rw [receivedCrc, length_parseFrame, byteAt_parseFrame (by omega), byteAt_parseFrame (by omega)]

/-! ## The two commands, by PLEN -/

theorem plenTooLong_iff : s.plenTooLong = true ↔ 256 < s.plen.toNat := decide_eq_true_iff

theorem plenTooLong_of_fits (fits : s.plen.toNat ≤ 256) : ¬ s.plenTooLong = true :=
  fun long => Nat.not_lt.mpr fits (plenTooLong_iff.mp long)

theorem exec_crcCompute_of_too_long (long : 256 < s.plen.toNat) :
    exec .crcCompute s = .next (s.raiseCmdError .length) :=
  if_pos (plenTooLong_iff.mpr long)

theorem exec_crcCompute_of_fits (fits : s.plen.toNat ≤ 256) :
    exec .crcCompute s = .next (s.setCrcAcc (crc16 s.parseFrame)) :=
  if_neg (plenTooLong_of_fits fits)

theorem exec_crcVerify_of_too_long (long : 256 < s.plen.toNat) :
    exec .crcVerify s = .next (s.raiseCmdError .length) :=
  if_pos (plenTooLong_iff.mpr long)

theorem exec_crcVerify_of_short (short : s.plen.toNat < 2) : exec .crcVerify s = .next (s.setVok false) := by
  simp only [exec, execCrcVerify, if_neg (plenTooLong_of_fits (by omega : s.plen.toNat ≤ 256)), if_pos short]

theorem exec_crcVerify_of_fits (enough : 2 ≤ s.plen.toNat) (fits : s.plen.toNat ≤ 256) :
    exec .crcVerify s =
      .next ((s.setCrcAcc (crc16 (coveredBytes s.parseFrame))).setVok
        (decide (crc16 (coveredBytes s.parseFrame) = receivedCrc s.parseFrame))) := by
  simp only [exec, execCrcVerify, if_neg (plenTooLong_of_fits fits), if_neg (Nat.not_lt.mpr enough)]

/-- A frame of its two CRC bytes alone: the CRC of no bytes is 0xFFFF, so `FF FF` is the one good frame (R106). -/
theorem exec_crcVerify_of_plen_two (two : s.plen = 2#9) :
    exec .crcVerify s =
      .next ((s.setCrcAcc 0xFFFF#16).setVok
        (decide (Memory.read s.mem 0x100 = 0xFF#8 ∧ Memory.read s.mem 0x101 = 0xFF#8))) := by
  have plen : s.plen.toNat = 2 := by rw [two]; rfl
  have covered : crc16 (coveredBytes s.parseFrame) = 0xFFFF#16 := by rw [coveredBytes_parseFrame, plen]; rfl
  have good : 0xFFFF#16 = receivedCrc s.parseFrame ↔
      Memory.read s.mem 0x100 = 0xFF#8 ∧ Memory.read s.mem 0x101 = 0xFF#8 := by
    rw [receivedCrc_parseFrame plen.ge, plen, u16, show 0xFFFF#16 = 0xFF#8 ++ 0xFF#8 from rfl, append_eq_append_iff,
      and_comm, eq_comm, eq_comm (a := 0xFF#8)]
  rw [exec_crcVerify_of_fits plen.ge (by omega), covered]
  simp only [good]

theorem isCmd0Word_crcCompute : IsCmd0Word (encodeWord .crcCompute) .crcCompute :=
  isCmd0Word_encodeWord fun j op => by cases j <;> simp [fieldsOfInstr] at op ⊢

theorem isCmd0Word_crcVerify : IsCmd0Word (encodeWord .crcVerify) .crcVerify :=
  isCmd0Word_encodeWord fun j op => by cases j <;> simp [fieldsOfInstr] at op ⊢

end Sys2Proof.Machine

open Sys2Proof Sys2Proof.Machine

/-- Settles O12, by PLEN; an empty parse frame folds to the initial value. -/
theorem crcComputeReadsParseBuffer : Obligations.CrcComputeReadsParseBuffer := by
  unfold Obligations.CrcComputeReadsParseBuffer
  refine ⟨isCmd0Word_crcCompute, fun s long => exec_crcCompute_of_too_long long,
    fun s fits => exec_crcCompute_of_fits fits, fun s zero => ?_⟩
  have plen : s.plen.toNat = 0 := by rw [zero]; rfl
  rw [exec_crcCompute_of_fits (by omega), State.parseFrame, plen]
  rfl

/-- Settles O13, by PLEN, with what the covered bytes and the received CRC are in the parse buffer. -/
theorem crcVerifyChecksParseBuffer : Obligations.CrcVerifyChecksParseBuffer := by
  unfold Obligations.CrcVerifyChecksParseBuffer
  refine ⟨isCmd0Word_crcVerify, fun s long => exec_crcVerify_of_too_long long,
    fun s short => exec_crcVerify_of_short short, fun s enough fits => ?_,
    fun s two => exec_crcVerify_of_plen_two two⟩
  rw [exec_crcVerify_of_fits enough fits, coveredBytes_parseFrame, receivedCrc_parseFrame enough]
  rfl
end

section
/-! PROOFS. The words of ENCODE and ENCODE_EXC (R81 to R83, R122, R123), and the frame each command leaves in TBUF. -/

namespace Sys2Proof

/-! ## The decoder's answer -/

/-- With ENCODE's OP, only the field C is checked (R81, R122). -/
theorem decodeWord_of_encode_op {w : Word} (op : w.extractLsb' 0 8 = 0x20#8) :
    decodeWord w =
      if w.extractLsb' 24 8 = 0#8 then .ok (.encode (w.extractLsb' 8 8) (w.extractLsb' 16 8)) else .reservedField := by
  simp only [decodeWord, fieldsOfWord, decodeFields, op, decodeCmdAB]

/-- With ENCODE_EXC's OP, no field is checked (R81, R123). -/
theorem decodeWord_of_encodeExc_op {w : Word} (op : w.extractLsb' 0 8 = 0x21#8) :
    decodeWord w = .ok (.encodeExc (w.extractLsb' 8 8) (w.extractLsb' 16 8) (w.extractLsb' 24 8)) := by
  simp only [decodeWord, fieldsOfWord, decodeFields, op]

end Sys2Proof

namespace Sys2Proof.Machine

variable {s : State} {f : List Byte}

/-! ## Frames and their lengths -/

@[simp] theorem length_withCrc (bs : List Byte) : (withCrc bs).length = bs.length + 2 := by
  simp [withCrc, leBytes]

@[simp] theorem length_responseFrame (a b : Byte) (payload : List Byte) :
    (responseFrame a b payload).length = payload.length + 4 := by
  simp [responseFrame]

@[simp] theorem length_exceptionFrame (a b c : Byte) : (exceptionFrame a b c).length = 5 := by
  simp [exceptionFrame]

/-! ## A frame loaded for transmission -/

theorem loadTx_eq (n : Nat) (len : f.length = n) :
    s.loadTx f = { s with mem := (s.loadTx f).mem, tlen := BitVec.ofNat 9 n } := by
  subst len
  rfl

theorem read_loadTx_inside (wf : s.mem.wf = true) {k : Nat} (inside : k < f.length) :
    (s.loadTx f).mem.read (tbufBase + k) = f.getD k 0#8 :=
  Memory.read_writeBytes_inside wf inside

theorem read_loadTx_outside {x : Nat} (outside : x < tbufBase ∨ tbufBase + f.length ≤ x) :
    (s.loadTx f).mem.read x = s.mem.read x :=
  Memory.read_writeBytes_other outside

/-! ## The two commands -/

theorem exec_encode_of_too_long (long : 252 < s.elen.toNat) (a b : Byte) :
    exec (.encode a b) s = .next (s.raiseCmdError .length) :=
  if_pos long

theorem exec_encode_of_fits (fits : s.elen.toNat ≤ 252) (a b : Byte) :
    exec (.encode a b) s = .next (s.loadTx (responseFrame a b (s.ebufBytes s.elen.toNat))) :=
  if_neg (Nat.not_lt.mpr fits)

theorem exec_encodeExc (a b c : Byte) (s : State) :
    exec (.encodeExc a b c) s = .next (s.loadTx (exceptionFrame a b c)) := rfl

end Sys2Proof.Machine

open Sys2Proof Sys2Proof.Machine

/-- Settles O15, from the decoder's answer on ENCODE's OP and what loading the response frame leaves in memory. -/
theorem encodeBuildsResponseInTbuf : Obligations.EncodeBuildsResponseInTbuf := by
  unfold Obligations.EncodeBuildsResponseInTbuf
  refine ⟨fun s w op zero => ?_, fun s w op nonzero => ?_, fun s a b long => exec_encode_of_too_long long a b,
    fun s a b wf fits => ?_⟩
  · rw [command, decodeWord_of_encode_op op, if_pos zero]
  · rw [command, decodeWord_of_encode_op op, if_neg nonzero]
    rfl
  · have len : (responseFrame a b (s.ebufBytes s.elen.toNat)).length = s.elen.toNat + 4 := by simp [State.ebufBytes]
    refine ⟨_, (exec_encode_of_fits fits a b).trans (congrArg _ (loadTx_eq _ len)), fun k inside => ?_,
      fun x outside => ?_⟩
    · exact read_loadTx_inside wf (len ▸ inside)
    · exact read_loadTx_outside (len ▸ outside)

/-- Settles O16, from the decoder's answer on ENCODE_EXC's OP and what loading the exception frame leaves in memory. -/
theorem encodeExcBuildsExceptionInTbuf : Obligations.EncodeExcBuildsExceptionInTbuf := by
  unfold Obligations.EncodeExcBuildsExceptionInTbuf
  refine ⟨fun s w op => ?_, fun s a b c wf => ?_⟩
  · rw [command, decodeWord_of_encodeExc_op op]
  · have len := length_exceptionFrame a b c
    have loaded (k : Nat) (inside : k < 5) :
        (s.loadTx (exceptionFrame a b c)).mem.read (tbufBase + k) = (exceptionFrame a b c).getD k 0#8 :=
      read_loadTx_inside wf (len ▸ inside)
    exact ⟨_, (exec_encodeExc a b c s).trans (congrArg _ (loadTx_eq 5 len)), loaded 0 (by decide),
      loaded 1 (by decide), loaded 2 (by decide), loaded 3 (by decide), loaded 4 (by decide),
      fun x outside => read_loadTx_outside (len ▸ outside)⟩
end

section
/-! PROOFS. DECODE (R120, R121): what decoding a byte sequence gives, case by case, and the parse buffer's bytes each
field is made of. -/

namespace Sys2Proof.Machine

/-! ## Decoding a byte sequence -/

section
variable {raw : List Byte}

theorem recognized_iff (fc : Byte) : recognized fc = true ↔ fc = 0x01#8 ∨ fc = 0x03#8 ∨ fc = 0x05#8 := by
  simp [recognized, or_assoc]

theorem decodeFrame_of_short (short : raw.length < 8) : decodeFrame raw = rejectedFrame .tooShort 0 0 :=
  if_pos short

theorem decodeFrame_of_bad_crc (enough : 8 ≤ raw.length) (bad : receivedCrc raw ≠ crc16 (coveredBytes raw)) :
    decodeFrame raw = rejectedFrame .crcMismatch (receivedCrc raw) (crc16 (coveredBytes raw)) :=
  (if_neg (Nat.not_lt.mpr enough)).trans (if_pos bad)

/-- A good frame's parts; its fields A and B only for a function code that has them (R89, R120). -/
theorem decodeFrame_of_good_crc (enough : 8 ≤ raw.length) (good : receivedCrc raw = crc16 (coveredBytes raw)) :
    decodeFrame raw =
      ⟨.ok, recognized (byteAt raw 1), byteAt raw 0, byteAt raw 1, BitVec.ofNat 9 (raw.length - 4),
        if recognized (byteAt raw 1) then fieldA raw else 0, if recognized (byteAt raw 1) then fieldB raw else 0,
        receivedCrc raw, crc16 (coveredBytes raw)⟩ :=
  (if_neg (Nat.not_lt.mpr enough)).trans (if_neg (not_not_intro good))

end

/-! ## DECODE, by PLEN -/

section
variable {s : State}

theorem exec_decode_of_too_long (long : 256 < s.plen.toNat) : exec .decode s = .next (s.raiseCmdError .length) :=
  if_pos (plenTooLong_iff.mpr long)

theorem exec_decode_of_fits (fits : s.plen.toNat ≤ 256) :
    exec .decode s = .next (s.setParsed (decodeFrame s.parseFrame)) :=
  if_neg (plenTooLong_of_fits fits)

theorem fieldA_parseFrame (enough : 4 ≤ s.plen.toNat) :
    fieldA s.parseFrame = u16 (Memory.read s.mem (pbufBase + 2)) (Memory.read s.mem (pbufBase + 3)) := by
  rw [fieldA, byteAt_parseFrame (by omega), byteAt_parseFrame (by omega)]

theorem fieldB_parseFrame (enough : 6 ≤ s.plen.toNat) :
    fieldB s.parseFrame = u16 (Memory.read s.mem (pbufBase + 4)) (Memory.read s.mem (pbufBase + 5)) := by
  rw [fieldB, byteAt_parseFrame (by omega), byteAt_parseFrame (by omega)]

end

theorem isCmd0Word_decode : IsCmd0Word (encodeWord .decode) .decode :=
  isCmd0Word_encodeWord fun j op => by cases j <;> simp [fieldsOfInstr] at op ⊢

end Sys2Proof.Machine

open Sys2Proof Sys2Proof.Machine

/-- Settles O14, by PLEN and the two CRCs, with the parse buffer's bytes that stand in each field. -/
theorem decodeWritesParsedFieldsOnly : Obligations.DecodeWritesParsedFieldsOnly := by
  unfold Obligations.DecodeWritesParsedFieldsOnly
  refine ⟨isCmd0Word_decode, fun s long => exec_decode_of_too_long long, fun s fits => ?_⟩
  intro n raw rx own known gives
  have len : s.parseFrame.length = n := length_parseFrame s
  have computed : crc16 (coveredBytes s.parseFrame) = own := congrArg crc16 coveredBytes_parseFrame
  have received (enough : 8 ≤ n) : receivedCrc s.parseFrame = rx := receivedCrc_parseFrame (by omega)
  have decoded {p : Parsed} (parse : decodeFrame s.parseFrame = p) : gives p := parse ▸ exec_decode_of_fits fits
  have good (enough : 8 ≤ n) (same : rx = own) :
      decodeFrame s.parseFrame =
        ⟨.ok, recognized (raw 1), raw 0, raw 1, BitVec.ofNat 9 (n - 4),
          if recognized (raw 1) then u16 (raw 2) (raw 3) else 0, if recognized (raw 1) then u16 (raw 4) (raw 5) else 0,
          rx, own⟩ := by
    rw [decodeFrame_of_good_crc (len ▸ enough) (by rw [received enough, computed, same]), len, computed,
      received enough, byteAt_parseFrame (by omega), byteAt_parseFrame (by omega), fieldA_parseFrame (by omega),
      fieldB_parseFrame (by omega)]
  refine ⟨fun short => decoded (decodeFrame_of_short (len ▸ short)), fun enough differ => decoded ?_,
    fun enough same isKnown => decoded ?_, fun enough same isUnknown => decoded ?_⟩
  · rw [decodeFrame_of_bad_crc (len ▸ enough) (by rwa [received enough, computed]), received enough, computed]
    rfl
  · rw [good enough same, (recognized_iff (raw 1)).mpr isKnown]
    rfl
  · rw [good enough same, Bool.eq_false_iff.mpr (mt (recognized_iff (raw 1)).mp isUnknown)]
    rfl
end

section
/-! PROOFS. The loop phase (R155 to R157): which action it makes, and what a capture and a flush leave as one update of
the state. -/

namespace Sys2Proof.Machine

variable {s : State}

/-! ## Which action (R157, R158) -/

theorem idleExpired_iff : s.idleExpired = true ↔ s.idleTo.toNat < s.elapsed.toNat := by
  rw [State.idleExpired, decide_eq_true_iff, BitVec.lt_def]

theorem loopPhase_of_not_polling (idle : s.runState ≠ .polling) : loopPhase s = s := by
  cases r : s.runState with
  | polling => exact absurd r idle
  | stopped | dispatch => simp only [loopPhase, r]

theorem loopPhase_of_polling (polling : s.runState = .polling) : loopPhase s = loopStep s := by
  simp only [loopPhase, polling]

theorem loopPhase_of_full (polling : s.runState = .polling) (full : 8 ≤ s.rxq.length) : loopPhase s = capture s :=
  (loopPhase_of_polling polling).trans (if_pos full)

theorem loopPhase_of_expired (polling : s.runState = .polling) (few : s.rxq.length < 8)
    (late : s.idleTo.toNat < s.elapsed.toNat) : loopPhase s = flush s := by
  rw [loopPhase_of_polling polling, loopStep, if_neg (Nat.not_le.mpr few), if_pos (idleExpired_iff.mpr late)]

theorem loopPhase_of_waiting (polling : s.runState = .polling) (few : s.rxq.length < 8)
    (early : s.elapsed.toNat ≤ s.idleTo.toNat) : loopPhase s = s := by
  rw [loopPhase_of_polling polling, loopStep, if_neg (Nat.not_le.mpr few),
    if_neg (mt idleExpired_iff.mp (Nat.not_lt.mpr early))]

/-- Only a capture moves the loop in phase 4; a flush leaves it polling (R155, R156). -/
theorem loopPhase_runState_of_few (few : s.rxq.length < 8) : (loopPhase s).runState = s.runState := by
  obtain same | ⟨_, full, _⟩ | ⟨_, _, _, flushed⟩ := loopPhase_cases s
  · rw [same]
  · exact absurd full (Nat.not_le.mpr few)
  · rw [flushed, flush_runState]

/-! ## The two actions -/

/-- A counter's step, as R12 writes it. -/
theorem wrapInc_eq (v : Half) : wrapInc v = BitVec.ofNat 16 ((v.toNat + 1) % 2 ^ 16) :=
  BitVec.eq_of_toNat_eq (by simp [wrapInc])

theorem capture_eq (s : State) :
    capture s =
      { s with
        rxq := s.rxq.drop 8
        mem := (takeFrame s).mem
        plen := 8#9
        elapsed := 0#32
        parsed := decodeFrame (takeFrame s).parseFrame
        runState := if (decodeFrame (takeFrame s).parseFrame).pst = .ok then .dispatch else s.runState
        ferrCnt := if (decodeFrame (takeFrame s).parseFrame).pst = .ok then s.ferrCnt else wrapInc s.ferrCnt } := by
  apply State.ext <;> simp

theorem flush_eq (s : State) :
    flush s =
      { s with
        rxq := []
        elapsed := 0#32
        discCnt := if s.rxq = [] then s.discCnt else wrapInc s.discCnt } := by
  apply State.ext <;> simp

/-- Eight bytes or more are never too short (R120). -/
theorem decodeFrame_pst_of_enough {raw : List Byte} (enough : 8 ≤ raw.length) :
    (decodeFrame raw).pst = .ok ∨ (decodeFrame raw).pst = .crcMismatch := by
  by_cases good : receivedCrc raw = crc16 (coveredBytes raw)
  · exact .inl (by rw [decodeFrame_of_good_crc enough good])
  · exact .inr (by rw [decodeFrame_of_bad_crc enough good]; rfl)

/-- A capture's decode is that of the command DECODE on the bytes it stored (R121, R155). -/
theorem exec_decode_of_captured (s : State) :
    exec .decode { s with mem := (takeFrame s).mem, plen := 8#9 } =
      .next { s with mem := (takeFrame s).mem, plen := 8#9, parsed := decodeFrame (takeFrame s).parseFrame } :=
  exec_decode_of_fits (s := { s with mem := (takeFrame s).mem, plen := 8#9 }) (by decide : (8#9).toNat ≤ 256)

theorem length_take_frame (full : 8 ≤ s.rxq.length) : (s.rxq.take 8).length = 8 := by
  rw [List.length_take, Nat.min_eq_left full]

theorem read_takeFrame_inside (wf : s.mem.wf = true) (full : 8 ≤ s.rxq.length) {k : Nat} (inside : k < 8) :
    (takeFrame s).mem.read (pbufBase + k) = s.rxq.getD k 0#8 := by
  rw [takeFrame_mem, Memory.read_writeBytes_inside wf (by rwa [length_take_frame full])]
  simp [List.getD, inside]

theorem read_takeFrame_outside (full : 8 ≤ s.rxq.length) {x : Nat} (outside : x < pbufBase ∨ pbufBase + 8 ≤ x) :
    (takeFrame s).mem.read x = s.mem.read x := by
  rw [takeFrame_mem, Memory.read_writeBytes_other (by rwa [length_take_frame full])]

end Sys2Proof.Machine

open Sys2Proof Sys2Proof.Machine

/-- Settles O29, from the loop phase's four cases: a frame waiting, the timer expired, neither, not polling. -/
theorem loopActsAtMostOncePerCycle : Obligations.LoopActsAtMostOncePerCycle := by
  unfold Obligations.LoopActsAtMostOncePerCycle
  exact fun s => ⟨loopPhase_of_full, loopPhase_of_expired, loopPhase_of_waiting, loopPhase_of_not_polling⟩

/-- Settles O28, from the flush as one update of the state. -/
theorem watchdogFlushDiscardsPartialFrame : Obligations.WatchdogFlushDiscardsPartialFrame := by
  unfold Obligations.WatchdogFlushDiscardsPartialFrame
  intro s polling few late
  rw [loopPhase_of_expired polling few late, flush_eq, wrapInc_eq]
  by_cases empty : s.rxq = [] <;> simp [empty, List.length_pos_iff]

/-- Settles O27, from the capture as one update of the state and what storing the 8 bytes leaves in memory. -/
theorem captureTakesTheEightOldestBytes : Obligations.CaptureTakesTheEightOldestBytes := by
  unfold Obligations.CaptureTakesTheEightOldestBytes
  intro s wf polling full
  refine ⟨(takeFrame s).mem, decodeFrame (takeFrame s).parseFrame, fun k inside => read_takeFrame_inside wf full inside,
    fun x outside => read_takeFrame_outside full outside, exec_decode_of_captured s, ?_, ?_⟩
  · exact decodeFrame_pst_of_enough (by rw [takeFrame_parseFrame wf full, length_take_frame full])
  · rw [loopPhase_of_full polling full, capture_eq, wrapInc_eq, polling]
end

section
/-! PROOFS. The line phase and the tick phase (R153, R154), case by case, and a write of CTRL (R159). -/

namespace Sys2Proof.Machine

variable {s : State}

/-! ## A received byte -/

theorem linePhase_of_room (b : Byte) (room : s.rxq.length < 256) :
    linePhase (some b) s = { s with rxq := s.rxq ++ [b] } :=
  if_pos room

/-- The FIFO after a received byte (R153). -/
theorem linePhase_some_rxq (b : Byte) (s : State) :
    (linePhase (some b) s).rxq = if s.rxq.length < 256 then s.rxq ++ [b] else s.rxq := by
  by_cases room : s.rxq.length < 256
  · rw [linePhase_of_room b room, if_pos room]
  · rw [linePhase_full b (Nat.not_lt.mp room), if_neg room, setRxOvf_rxq]

/-! ## A tick -/

/-- ELAPSED's step, as R12 writes it. -/
theorem saturatingInc_eq (v : Word) : saturatingInc v = BitVec.ofNat 32 (min (v.toNat + 1) 0xFFFFFFFF) := by
  by_cases top : v = 0xFFFFFFFF#32
  · subst top
    rfl
  · have below : v.toNat ≠ 0xFFFFFFFF := fun eq => top (BitVec.eq_of_toNat_eq eq)
    apply BitVec.eq_of_toNat_eq
    rw [saturatingInc, if_neg top, BitVec.toNat_add, BitVec.toNat_ofNat, BitVec.toNat_ofNat]
    omega

theorem tickPhase_of_running (running : s.runState ≠ .stopped) :
    tickPhase true s = { s with elapsed := BitVec.ofNat 32 (min (s.elapsed.toNat + 1) 0xFFFFFFFF) } := by
  rw [← saturatingInc_eq]
  exact if_neg running

theorem tickPhase_of_stopped (stopped : s.runState = .stopped) : tickPhase true s = s :=
  if_pos stopped

theorem tickPhase_elapsed_of_running (running : s.runState ≠ .stopped) (tick : Bool) :
    (tickPhase tick s).elapsed =
      if tick = true then BitVec.ofNat 32 (min (s.elapsed.toNat + 1) 0xFFFFFFFF) else s.elapsed := by
  cases tick with
  | false => rfl
  | true => rw [tickPhase_of_running running, if_pos rfl]

/-! ## A write of CTRL -/

theorem hostAccess_write_ctrl (v : Word) (s : State) :
    hostAccess { off := Reg.ctrl.offset, op := .write4 v } s =
      .next ((writeCtrl (v.getLsbD 0) (v.getLsbD 1) s).setAnswer .wrote) :=
  hostAccess_write_register s .ctrl v

theorem writeCtrl_starts (stopped : s.runState = .stopped) (ie : Bool) :
    writeCtrl true ie s = { s with run := true, ie := ie, runState := .polling, elapsed := 0#32 } := by
  simp only [writeCtrl, stopped]
  rfl

theorem writeCtrl_stops (polling : s.runState = .polling) (ie : Bool) :
    writeCtrl false ie s = { s with run := false, ie := ie, runState := .stopped } := by
  simp only [writeCtrl, polling]
  rfl

/-- A write that asks for what the loop does already, and any write in DISPATCH, sets the two bits alone. -/
theorem writeCtrl_sets_bits_alone {run : Bool}
    (settled : s.runState = .stopped ∧ run = false ∨ s.runState = .polling ∧ run = true ∨ s.runState = .dispatch)
    (ie : Bool) : writeCtrl run ie s = s.setCtrl run ie := by
  obtain ⟨stopped, rfl⟩ | ⟨polling, rfl⟩ | dispatch := settled
  · simp only [writeCtrl, stopped]
  · simp only [writeCtrl, polling]
  · simp only [writeCtrl, dispatch]

end Sys2Proof.Machine

open Sys2Proof Sys2Proof.Machine

/-- Settles O25, by whether the FIFO has room. -/
theorem receivedByteIsQueuedOrLost : Obligations.ReceivedByteIsQueuedOrLost := by
  unfold Obligations.ReceivedByteIsQueuedOrLost
  exact fun s b => ⟨linePhase_of_room b, linePhase_full b⟩

/-- Settles O26, by RUNSTATE, with the saturating step in natural numbers. -/
theorem tickCountsWhileTheLoopRuns : Obligations.TickCountsWhileTheLoopRuns := by
  unfold Obligations.TickCountsWhileTheLoopRuns
  exact fun s => ⟨tickPhase_of_running, tickPhase_of_stopped, rfl, linePhase_elapsed s⟩

/-- Settles O30, by RUNSTATE and the RUN bit written. -/
theorem ctrlWriteStartsAndStopsTheLoop : Obligations.CtrlWriteStartsAndStopsTheLoop := by
  unfold Obligations.CtrlWriteStartsAndStopsTheLoop
  intro s v t written
  have access : written = .next ((writeCtrl (v.getLsbD 0) (v.getLsbD 1) s).setAnswer .wrote) :=
    hostAccess_write_ctrl v s
  have bitsAlone (settled : s.runState = .stopped ∧ v.getLsbD 0 = false ∨ s.runState = .polling ∧ v.getLsbD 0 = true ∨
      s.runState = .dispatch) : written = .next t := by
    rw [access, writeCtrl_sets_bits_alone settled]
    rfl
  refine ⟨fun stopped run => ?_, fun polling run => ?_, fun stopped run => bitsAlone (.inl ⟨stopped, run⟩),
    fun polling run => bitsAlone (.inr (.inl ⟨polling, run⟩)), fun dispatch => bitsAlone (.inr (.inr dispatch))⟩
  · simp only [access, t, run, writeCtrl_starts stopped]
    rfl
  · simp only [access, t, run, writeCtrl_stops polling]
    rfl
end

section
/-! PROOFS. The loop's commands (R160 to R163): their words, their effects, and the later phases of their cycle. -/

namespace Sys2Proof.Machine

variable {s t : State}

/-! ## The cycle of a command -/

/-- A command's cycle: the command, the write's answer, then phases 2 to 4 (R80, R151). -/
theorem cycle_of_command {i : Instr} (run : exec i s = .next t) (rx : Option Byte) (tick : Bool) :
    cycle { commandInput (encodeWord i) with rx := rx, tick := tick } s =
      .next (loopPhase (tickPhase tick (linePhase rx (t.setAnswer .wrote)))) := by
  have written : hostAccess { off := Reg.cmd.offset, op := .write4 (encodeWord i) } s = .next (t.setAnswer .wrote) := by
    rw [hostAccess_write_register, writeReg, command_encodeWord, run]
    rfl
  exact cycle_of_hostAccess written rx tick

theorem cycle_of_command_alone {i : Instr} (run : exec i s = .next t) :
    cycle (commandInput (encodeWord i)) s = .next (loopPhase (t.setAnswer .wrote)) :=
  cycle_of_command run none false

theorem isCmd0Word_nop : IsCmd0Word (encodeWord .nop) .nop :=
  isCmd0Word_encodeWord fun j op => by cases j <;> simp [fieldsOfInstr] at op ⊢

theorem isCmd0Word_doneTx : IsCmd0Word (encodeWord .doneTx) .doneTx :=
  isCmd0Word_encodeWord fun j op => by cases j <;> simp [fieldsOfInstr] at op ⊢

theorem isCmd0Word_doneDrop : IsCmd0Word (encodeWord .doneDrop) .doneDrop :=
  isCmd0Word_encodeWord fun j op => by cases j <;> simp [fieldsOfInstr] at op ⊢

theorem isCmd0Word_rxFlush : IsCmd0Word (encodeWord .rxFlush) .rxFlush :=
  isCmd0Word_encodeWord fun j op => by cases j <;> simp [fieldsOfInstr] at op ⊢

/-! ## What the commands leave -/

theorem exec_nop (s : State) : exec .nop s = .next s := rfl

theorem exec_rxFlush (s : State) : exec .rxFlush s = .next (s.setRxq []) := rfl

theorem exec_doneTx_of_dispatch (dispatch : s.runState = .dispatch) :
    exec .doneTx s = .next (endDispatch (s.emit s.txBuffer)) :=
  if_pos dispatch

theorem exec_doneTx_of_not_dispatch (other : s.runState ≠ .dispatch) :
    exec .doneTx s = .next (s.raiseCmdError .state) :=
  if_neg other

theorem exec_doneDrop_of_dispatch (dispatch : s.runState = .dispatch) : exec .doneDrop s = .next (endDispatch s) :=
  if_pos dispatch

theorem exec_doneDrop_of_not_dispatch (other : s.runState ≠ .dispatch) :
    exec .doneDrop s = .next (s.raiseCmdError .state) :=
  if_neg other

/-! ## The rest of the cycle that ends a dispatch -/

/-- A command that ends the dispatch with RUN = 1: a frame complete in the FIFO is captured in the same cycle (R160,
R161). -/
theorem ended_dispatch_recaptures {i : Instr} (run : exec i s = .next (endDispatch t)) (polls : t.run = true)
    (full : 8 ≤ t.rxq.length) :
    ∃ u, cycle (commandInput (encodeWord i)) s = .next u ∧ u.rxq = t.rxq.drop 8 ∧ u.plen = 8#9 ∧ u.txLog = t.txLog := by
  have polling : ((endDispatch t).setAnswer .wrote).runState = .polling := by simp [polls]
  exact ⟨_, (cycle_of_command_alone run).trans (congrArg _ (loopPhase_of_full polling full)), by simp⟩

/-- A command that ends the dispatch with no frame waiting: the level `irq` falls (R47, R160, R161). -/
theorem ended_dispatch_lowers_irq {i : Instr} {u : State} (run : exec i s = .next (endDispatch t))
    (few : t.rxq.length < 8) (after : cycle (commandInput (encodeWord i)) s = .next u) : u.irq = false := by
  obtain rfl : loopPhase ((endDispatch t).setAnswer .wrote) = u :=
    Host.Outcome.next.inj ((cycle_of_command_alone run).symm.trans after)
  have left : ((endDispatch t).setAnswer .wrote).runState ≠ .dispatch := by cases h : t.run <;> simp [h]
  rw [State.irq, loopPhase_runState_of_few (s := (endDispatch t).setAnswer .wrote) few, decide_eq_false left, Bool.and_false]

end Sys2Proof.Machine

open Sys2Proof Sys2Proof.Machine

/-- Settles O19, by RUNSTATE; the later phases are those of any command that ends the dispatch. -/
theorem doneTxSendsTransmitBuffer : Obligations.DoneTxSendsTransmitBuffer := by
  unfold Obligations.DoneTxSendsTransmitBuffer
  refine ⟨isCmd0Word_doneTx, fun s => exec_doneTx_of_not_dispatch, fun s dispatch => ?_⟩
  intro f t
  have run := exec_doneTx_of_dispatch dispatch
  refine ⟨run, cycle_of_command run, fun full polls => ?_, fun u few after => ended_dispatch_lowers_irq run few after⟩
  obtain ⟨u, after, rxq, plen, _⟩ := ended_dispatch_recaptures run polls full
  exact ⟨u, after, rxq, plen⟩

/-- Settles O20, by RUNSTATE; the later phases are those of any command that ends the dispatch. -/
theorem doneDropEndsDispatchSilently : Obligations.DoneDropEndsDispatchSilently := by
  unfold Obligations.DoneDropEndsDispatchSilently
  refine ⟨isCmd0Word_doneDrop, fun s => exec_doneDrop_of_not_dispatch, fun s dispatch => ?_⟩
  have run := exec_doneDrop_of_dispatch dispatch
  exact ⟨run, cycle_of_command run, fun full polls => ended_dispatch_recaptures run polls full,
    fun u few after => ended_dispatch_lowers_irq run few after⟩

/-- Settles O21: the byte of the same cycle finds an empty FIFO, and one byte alone is no frame to capture. -/
theorem rxFlushEmptiesFifo : Obligations.RxFlushEmptiesFifo := by
  unfold Obligations.RxFlushEmptiesFifo
  have pushed (s : State) (b : Byte) :
      cycle { commandInput 0x00000040#32 with rx := some b } s =
        .next (loopPhase { s with rxq := [b], answer := .wrote }) :=
    cycle_of_command (exec_rxFlush s) (some b) false
  refine ⟨isCmd0Word_rxFlush, exec_rxFlush, pushed, fun s b early => (pushed s b).trans (congrArg _ ?_)⟩
  by_cases polling : s.runState = .polling
  · exact loopPhase_of_waiting polling (by decide : 1 < 8) (early polling)
  · exact loopPhase_of_not_polling polling

/-- Settles O22, from the cycle of any command. -/
theorem nopChangesNothing : Obligations.NopChangesNothing := by
  unfold Obligations.NopChangesNothing
  exact ⟨isCmd0Word_nop, exec_nop, fun s => cycle_of_command (exec_nop s)⟩
end

section
/-! PROOFS. DISPATCH against everything but DONE_TX, DONE_DROP and reset (R158): what the host phase does to the fields
of the loop, and the later phases in DISPATCH. -/

namespace Sys2Proof.Machine

variable {i : CycleInput} {s u : State}

/-! ## The host phase -/

/-- RX_FLUSH is the one command that touches the FIFO (R162). -/
theorem exec_rxq {j : Instr} {t : State} (run : exec j s = .next t) :
    t.rxq = if j = .rxFlush then [] else s.rxq := by
  by_cases flushes : j = .rxFlush
  · subst flushes
    rw [← Host.Outcome.next.inj run, if_pos rfl, setRxq_rxq]
  · rw [if_neg flushes]
    obtain ⟨_, _, rfl, _⟩ | ⟨_, rfl⟩ | ⟨_, rfl⟩ | ⟨_, _, rfl⟩ | ⟨_, rfl⟩ | ⟨_, rfl | ⟨_, _, rfl⟩⟩ | ⟨_, _, rfl⟩ |
      ⟨_, _, _, _, rfl⟩ | ⟨_, _, _, _, rfl⟩ | ⟨_, _, rfl⟩ | ⟨_, _, rfl⟩ | ⟨flush, _⟩ := exec_cases run
    any_goals simp
    exact absurd flush flushes

theorem hostPhase_rxq (rst : i.rst = false) (h : hostPhase i.host s = .next u) :
    u.rxq = if cycleCommand i = some .rxFlush then [] else s.rxq := by
  have register {r : Reg} {v : Word} (written : writesReg i r v) (ne : r ≠ .cmd) :
      s.rxq = if cycleCommand i = some .rxFlush then [] else s.rxq := by
    simp [cycleCommand_of_other_register written ne]
  obtain ⟨_, none, rfl⟩ | ⟨_, _, byte, rfl⟩ | ⟨_, w, rfl⟩ | ⟨_, w, rfl⟩ | ⟨_, w, rfl⟩ | ⟨_, w, rfl⟩ | ⟨_, w, rfl⟩ |
    ⟨_, w, rfl⟩ | ⟨_, _, _, _, none, rfl⟩ | ⟨_, j, x, _, cmd, run, rfl⟩ := hostPhase_effects rst h
  · simp [none]
  · simp [cycleCommand, byte]
  iterate 6 · simpa using register w (by decide)
  · simp [none]
  · simp [cmd, exec_rxq run]

/-- In phase 1 only a write of DIAG moves the two counters (R40). -/
theorem hostPhase_counters (rst : i.rst = false) (h : hostPhase i.host s = .next u)
    (kept : ∀ v, ¬writesReg i .diag v) : u.ferrCnt = s.ferrCnt ∧ u.discCnt = s.discCnt := by
  apply hostPhase_property rst h (fun u => u.ferrCnt = s.ferrCnt ∧ u.discCnt = s.discCnt)
  case diag => exact fun v written => absurd written (kept v)
  all_goals intros; simp

/-- In DISPATCH nothing the host does but DONE_TX and DONE_DROP moves RUNSTATE or ELAPSED (R158). -/
theorem hostPhase_keeps_dispatch (dispatch : s.runState = .dispatch) (rst : i.rst = false)
    (noTx : cycleCommand i ≠ some .doneTx) (noDrop : cycleCommand i ≠ some .doneDrop)
    (h : hostPhase i.host s = .next u) : u.runState = .dispatch ∧ u.elapsed = s.elapsed := by
  apply hostPhase_property rst h (fun u => u.runState = .dispatch ∧ u.elapsed = s.elapsed)
  case ctrl => exact fun v _ => by simp [writeCtrl_runState, writeCtrl_elapsed, dispatch]
  case doneTx => exact fun cmd => absurd cmd noTx
  case doneDrop => exact fun cmd => absurd cmd noDrop
  all_goals intros; simp [dispatch]

/-! ## The later phases -/

theorem laterPhases_of_dispatch (dispatch : u.runState = .dispatch) (rx : Option Byte) (tick : Bool) :
    laterPhases rx tick u = tickPhase tick (linePhase rx u) :=
  loopPhase_of_not_polling (by simp [dispatch])

end Sys2Proof.Machine

open Sys2Proof Sys2Proof.Machine

/-- Settles O31, phase by phase: what the host phase leaves of the loop's fields, then a byte and a tick with no loop
action. -/
theorem dispatchHoldsUntilDone : Obligations.DispatchHoldsUntilDone := by
  unfold Obligations.DispatchHoldsUntilDone
  intro s t dispatch rst noTx noDrop run
  obtain ⟨reset, _⟩ | ⟨_, u, host, rfl⟩ := step_cases run
  · simp [rst] at reset
  obtain ⟨held, elapsed⟩ := hostPhase_keeps_dispatch (s := s.beginCycle) dispatch rst noTx noDrop host
  have fifo : u.rxq = if cycleCommand s.nextInput = some .rxFlush then [] else s.rxq :=
    hostPhase_rxq (s := s.beginCycle) rst host
  have running : (linePhase s.nextInput.rx u).runState ≠ .stopped := by simp [held]
  rw [laterPhases_of_dispatch held]
  refine ⟨by simp [held], fun kept => by simpa using hostPhase_counters rst host kept, ?_, ?_⟩
  · rw [tickPhase_elapsed_of_running running, linePhase_elapsed, elapsed, beginCycle_elapsed]
  · rw [tickPhase_rxq, ← fifo]
    cases s.nextInput.rx with
    | none => rfl
    | some b => exact linePhase_some_rxq b u
end

section
/-! PROOFS. The causes of a refused command in their order (R192): which commands each check applies to, by OP, and what
a command leaves that passes its check. -/

namespace Sys2Proof

/-! ## The command of a well-formed word, by its OP -/

theorem exists_eq_encodeWord_of_wellFormed {w : Word} (wf : (fieldsOfWord w).wellFormed = true) :
    ∃ i, w = encodeWord i := by
  obtain ⟨i, answer, _⟩ | ⟨_, malformed, _⟩ | ⟨_, malformed, _⟩ := decodeFields_cases (fieldsOfWord w)
  · exact ⟨i, eq_encodeWord_of_decodeWord answer⟩
  · simp [wf] at malformed
  · simp [wf] at malformed

theorem extractLsb'_op_encodeWord (i : Instr) : (encodeWord i).extractLsb' 0 8 = (fieldsOfInstr i).op :=
  congrArg CmdFields.op (fieldsOfWord_wordOfFields (fieldsOfInstr i))

theorem op_of_plen_check_iff (i : Instr) :
    (encodeWord i).extractLsb' 0 8 = 0x03#8 ∨ (encodeWord i).extractLsb' 0 8 = 0x04#8 ∨
      (encodeWord i).extractLsb' 0 8 = 0x10#8 ↔ i = .crcCompute ∨ i = .crcVerify ∨ i = .decode := by
  rw [extractLsb'_op_encodeWord]
  cases i <;> simp [fieldsOfInstr]

theorem op_of_elen_check_iff (i : Instr) :
    (encodeWord i).extractLsb' 0 8 = 0x20#8 ↔ ∃ a b, i = .encode a b := by
  rw [extractLsb'_op_encodeWord]
  cases i <;> simp [fieldsOfInstr]

theorem op_of_dispatch_check_iff (i : Instr) :
    (encodeWord i).extractLsb' 0 8 = 0x30#8 ∨ (encodeWord i).extractLsb' 0 8 = 0x31#8 ↔ i = .doneTx ∨ i = .doneDrop := by
  rw [extractLsb'_op_encodeWord]
  cases i <;> simp [fieldsOfInstr]

end Sys2Proof

namespace Sys2Proof.Machine

variable {i : Instr} {s : State}

/-! ## A command that fails its check, and one that passes it -/

theorem exec_of_plen_too_long (checked : i = .crcCompute ∨ i = .crcVerify ∨ i = .decode) (long : 256 < s.plen.toNat) :
    exec i s = .next (s.raiseCmdError .length) := by
  obtain rfl | rfl | rfl := checked
  · exact exec_crcCompute_of_too_long long
  · exact exec_crcVerify_of_too_long long
  · exact exec_decode_of_too_long long

theorem exec_of_not_dispatch (checked : i = .doneTx ∨ i = .doneDrop) (other : s.runState ≠ .dispatch) :
    exec i s = .next (s.raiseCmdError .state) := by
  obtain rfl | rfl := checked
  · exact exec_doneTx_of_not_dispatch other
  · exact exec_doneDrop_of_not_dispatch other

theorem exec_crcVerify_keeps_error (fits : s.plen.toNat ≤ 256) :
    ∃ t, exec .crcVerify s = .next t ∧ t.cmdErr = s.cmdErr ∧ t.errCause = s.errCause := by
  by_cases enough : 2 ≤ s.plen.toNat
  · exact ⟨_, exec_crcVerify_of_fits enough fits, rfl, rfl⟩
  · exact ⟨_, exec_crcVerify_of_short (Nat.lt_of_not_le enough), rfl, rfl⟩

/-- No cause applies: the command has its own effect, which CMD_ERR and ERRCAUSE are no part of (R192, R193). -/
theorem exec_keeps_error_of_no_cause
    (plenFits : i = .crcCompute ∨ i = .crcVerify ∨ i = .decode → s.plen.toNat ≤ 256)
    (elenFits : (∃ a b, i = .encode a b) → s.elen.toNat ≤ 252)
    (dispatch : i = .doneTx ∨ i = .doneDrop → s.runState = .dispatch) :
    ∃ t, exec i s = .next t ∧ t.cmdErr = s.cmdErr ∧ t.errCause = s.errCause := by
  cases i with
  | nop | crcInit | crcFeed a | encodeExc a b c | rxFlush => exact ⟨_, rfl, rfl, rfl⟩
  | crcCompute => exact ⟨_, exec_crcCompute_of_fits (plenFits (by simp)), rfl, rfl⟩
  | crcVerify => exact exec_crcVerify_keeps_error (plenFits (by simp))
  | decode => exact ⟨_, exec_decode_of_fits (plenFits (by simp)), rfl, rfl⟩
  | encode a b => exact ⟨_, exec_encode_of_fits (elenFits ⟨a, b, rfl⟩) a b, rfl, rfl⟩
  | doneTx => exact ⟨_, exec_doneTx_of_dispatch (dispatch (by simp)), rfl, rfl⟩
  | doneDrop => exact ⟨_, exec_doneDrop_of_dispatch (dispatch (by simp)), rfl, rfl⟩

end Sys2Proof.Machine

open Sys2Proof Sys2Proof.Machine

/-- Settles O5: causes 1 and 2 are the decoder's answers, and a well-formed word is one command's word, whose check is
read off its OP. -/
theorem firstApplicableCauseIsReported : Obligations.FirstApplicableCauseIsReported := by
  unfold Obligations.FirstApplicableCauseIsReported
  intro s w
  refine ⟨fun reserved => command_of_reserved_op reserved s,
    fun defined malformed => command_of_reserved_field defined malformed s, fun wf short long => ?_,
    fun wf encodes long => ?_, fun wf done other => ?_, fun wf plenFits elenFits dispatch => ?_⟩
  all_goals
    obtain ⟨i, rfl⟩ := exists_eq_encodeWord_of_wellFormed wf
    rw [command_encodeWord]
  · exact exec_of_plen_too_long ((op_of_plen_check_iff i).mp short) long
  · obtain ⟨a, b, rfl⟩ := (op_of_elen_check_iff i).mp encodes
    exact exec_encode_of_too_long long a b
  · exact exec_of_not_dispatch ((op_of_dispatch_check_iff i).mp done) other
  · rw [op_of_plen_check_iff] at plenFits
    rw [op_of_elen_check_iff] at elenFits
    rw [op_of_dispatch_check_iff] at dispatch
    exact exec_keeps_error_of_no_cause plenFits elenFits dispatch
end

section
/-! PROOFS. Reset (R220, R221): the step of a cycle whose input asserts `rst`. -/

namespace Sys2Proof.Machine

variable {i : CycleInput} {s : State}

/-- No phase runs in a reset cycle, whatever else its input holds (R220). -/
theorem cycle_of_rst (rst : i.rst = true) (s : State) : cycle i s = .next (resetCycle s) := by
  rw [cycle, if_pos rst]

theorem nextInput_of_inputs {rest : List CycleInput} (listed : s.inputs = i :: rest) : s.nextInput = i := by
  rw [State.nextInput, listed]

theorem step_of_rst {rest : List CycleInput} (listed : s.inputs = i :: rest) (rst : i.rst = true) :
    step s = .next (resetCycle s.beginCycle) := by
  rw [step, nextInput_of_inputs listed, cycle_of_rst rst]

end Sys2Proof.Machine

open Sys2Proof Sys2Proof.Machine

/-- Settles O33: `State.reset` has each value of R221's table, and a reset cycle leaves that state but for the sink's
record and the inputs to come, of which the table says nothing. -/
theorem resetSetsEveryPart : Obligations.ResetSetsEveryPart := by
  unfold Obligations.ResetSetsEveryPart
  intro atReset
  have powerOn : atReset State.reset :=
    ⟨rfl, rfl, rfl, rfl, rfl, rfl, rfl, rfl, rfl, rfl, rfl, rfl, rfl, rfl, rfl, rfl, fun _ => rfl, rfl, rfl⟩
  refine ⟨powerOn, fun s i rest listed rst => ⟨resetCycle s.beginCycle, step_of_rst listed rst, ?_, rfl, rfl, ?_⟩⟩
  · exact powerOn
  · exact beginCycle_txLog s
end

section
/-! PROOFS. The opcode map (R80 to R84): a command and its one word, and the decoder's answer on every word. -/

open Sys2Proof Sys2Proof.Machine

/-- Settles O1: the encoder's fields decode to their command, and the fields of a word that decodes to a command are the
encoder's. -/
theorem commandsAndTheirWordsAgree : Obligations.CommandsAndTheirWordsAgree := by
  unfold Obligations.CommandsAndTheirWordsAgree
  exact ⟨decodeWord_encodeWord, fun _ _ answer => eq_encodeWord_of_decodeWord answer⟩

/-- Settles O2, by the decoder's three answers: each goes with one state of the OP and of the fields. -/
theorem decoderSortsEveryWord : Obligations.DecoderSortsEveryWord := by
  unfold Obligations.DecoderSortsEveryWord
  refine ⟨⟨by decide, by decide⟩, fun w => ⟨fun wf => ?_, decodeWord_of_reserved_field, fun reserved =>
    ⟨decodeWord_of_reserved_op reserved, ?_⟩⟩⟩
  · obtain ⟨i, rfl⟩ := exists_eq_encodeWord_of_wellFormed wf
    exact ⟨i, decodeWord_encodeWord i⟩
  · refine Bool.eq_false_iff.mpr fun wf => reserved ?_
    obtain ⟨i, rfl⟩ := exists_eq_encodeWord_of_wellFormed wf
    rw [extractLsb'_op_encodeWord]
    exact fieldsOfInstr_op_defined i

/-- Settles O3: seven closed words, each decoded. -/
theorem listedWordsDecode : Obligations.ListedWordsDecode := by
  unfold Obligations.ListedWordsDecode
  decide
end

section
/-! PROOFS. The CRC (R100 to R102): the bit-serial register, and what one inverted bit does to the check. -/

namespace Sys2Proof.Machine

/-! ## The bit-serial register -/

/-- The lowest bit of `x` decides the shift of `acc`; the bits above it come down unchanged (R100). -/
theorem crcBit_xor_eq_serialShift (acc x : Half) : crcBit (acc ^^^ x) = serialShift acc (x.getLsbD 0) ^^^ (x >>> 1) := by
  simp only [crcBit, serialShift, BitVec.getLsbD_xor, BitVec.ushiftRight_xor_distrib]
  split
  · rw [BitVec.xor_assoc, BitVec.xor_assoc, BitVec.xor_comm (x >>> 1)]
  · rfl

/-- `k` iterations over `k` bits XORed in are `k` serial shifts, low bit first. -/
theorem crcBits_xor_eq_foldl_serialShift {k : Nat} {x : Half} (narrow : ∀ i, k ≤ i → x.getLsbD i = false) (acc : Half) :
    crcBits k (acc ^^^ x) = ((List.range k).map x.getLsbD).foldl serialShift acc := by
  induction k generalizing acc x with
  | zero =>
    have zero : x = 0#16 := BitVec.eq_of_getLsbD_eq fun i _ => by rw [narrow i i.zero_le, BitVec.getLsbD_zero]
    rw [zero, BitVec.xor_zero]
    rfl
  | succ k ih =>
    have shifted (i : Nat) : (x >>> 1).getLsbD i = x.getLsbD (i + 1) := by
      rw [BitVec.getLsbD_ushiftRight, Nat.add_comm]
    rw [crcBits, crcBit_xor_eq_serialShift, ih fun i le => by rw [shifted, narrow (i + 1) (by omega)],
      List.range_succ_eq_map, List.map_cons, List.foldl_cons, List.map_map, funext shifted]
    rfl

theorem crcStep_eq_foldl_serialShift (acc : Half) (b : Byte) : crcStep acc b = (byteBits b).foldl serialShift acc := by
  have narrow : ∀ i, 8 ≤ i → (b.setWidth 16).getLsbD i = false := fun i le => by
    simp [BitVec.getLsbD_setWidth, BitVec.getLsbD_of_ge b i le]
  rw [crcStep, crcBits_xor_eq_foldl_serialShift narrow, byteBits]
  rfl

theorem crcFold_eq_foldl_serialShift (acc : Half) (bs : List Byte) :
    crcFold acc bs = (bs.flatMap byteBits).foldl serialShift acc := by
  induction bs generalizing acc with
  | nil => rfl
  | cons b bs ih => rw [crcFold_cons, ih, List.flatMap_cons, List.foldl_append, crcStep_eq_foldl_serialShift]

/-! ## The CRC loses nothing -/

theorem crcBits_injective (k : Nat) : Function.Injective (crcBits k) := fun x y same =>
  BitVec.xor_eq_zero_iff.mp (crcBits_eq_zero (by rw [crcBits_xor, same, BitVec.xor_self]))

theorem crcStep_left_injective (b : Byte) : Function.Injective (crcStep · b) := fun _ _ same =>
  BitVec.xor_left_inj _ |>.mp (crcBits_injective 8 same)

theorem crcStep_right_injective (acc : Half) : Function.Injective (crcStep acc) := fun b c same => by
  have wide : b.setWidth 16 = c.setWidth 16 := BitVec.xor_right_inj _ |>.mp (crcBits_injective 8 same)
  simpa using congrArg (BitVec.setWidth 8) wide

theorem crcFold_left_injective (bs : List Byte) : Function.Injective (crcFold · bs) := by
  induction bs with
  | nil => exact fun _ _ same => same
  | cons b bs ih => exact fun _ _ same => crcStep_left_injective b (ih same)

/-- Two byte sequences that differ in one byte differ in their CRC. -/
theorem eq_of_crc16_eq {front back : List Byte} {b c : Byte} (same : crc16 (front ++ b :: back) = crc16 (front ++ c :: back)) :
    b = c := by
  rw [crc16_append, crc16_append, crcFold_cons, crcFold_cons] at same
  exact crcStep_right_injective _ (crcFold_left_injective back same)

/-! ## A frame and its check -/

theorem u16_hiByte_loByte (c : Half) : u16 (hiByte c) (loByte c) = c :=
  (BitVec.extractLsb'_append_extractLsb'_eq_extractLsb' rfl).trans BitVec.extractLsb'_eq_self

theorem leBytes_u16 (hi lo : Byte) : leBytes (u16 hi lo) = [lo, hi] := by
  rw [leBytes, loByte, hiByte, u16, BitVec.extractLsb'_append_eq_right, BitVec.extractLsb'_append_eq_left]

theorem coveredBytes_append_pair (bs : List Byte) (lo hi : Byte) : coveredBytes (bs ++ [lo, hi]) = bs := by
  simp [coveredBytes]

theorem receivedCrc_append_pair (bs : List Byte) (lo hi : Byte) : receivedCrc (bs ++ [lo, hi]) = u16 hi lo := by
  simp [receivedCrc, byteAt]

theorem coveredBytes_withCrc (bs : List Byte) : coveredBytes (withCrc bs) = bs :=
  coveredBytes_append_pair bs _ _

theorem receivedCrc_withCrc (bs : List Byte) : receivedCrc (withCrc bs) = crc16 bs :=
  (receivedCrc_append_pair bs _ _).trans (u16_hiByte_loByte _)

theorem exists_eq_append_pair {f : List Byte} (long : 2 ≤ f.length) : ∃ bs lo hi, f = bs ++ [lo, hi] := by
  obtain ⟨lo, hi, tail⟩ := List.length_eq_two.mp (show (f.drop (f.length - 2)).length = 2 by rw [List.length_drop]; omega)
  exact ⟨f.take (f.length - 2), lo, hi, by rw [← tail, List.take_append_drop]⟩

/-- A sequence that passes its check has CRC 0, as R102 (a) has it of every frame with its CRC. -/
theorem crc16_eq_zero_of_check {f : List Byte} (long : 2 ≤ f.length) (good : receivedCrc f = crc16 (coveredBytes f)) :
    crc16 f = 0#16 := by
  obtain ⟨bs, lo, hi, rfl⟩ := exists_eq_append_pair long
  rw [receivedCrc_append_pair, coveredBytes_append_pair] at good
  rw [← leBytes_u16 hi lo, good]
  exact crc16_withCrc bs

/-! ## One inverted bit -/

theorem xor_bit_ne (b : Byte) {j : Nat} (inside : j < 8) : b ^^^ (1#8 <<< j) ≠ b := fun same => by
  have bit := congrArg (BitVec.getLsbD · j) same
  simp [inside] at bit

theorem length_flipBit (bs : List Byte) (k j : Nat) : (flipBit bs k j).length = bs.length :=
  List.length_set

/-- The inverted bit changes the CRC of the whole frame, which was 0, so the check fails (R102 (b)). -/
theorem check_fails_of_flipBit (d : List Byte) {k j : Nat} (inside : k < d.length + 2) (bit : j < 8) :
    receivedCrc (flipBit (withCrc d) k j) ≠ crc16 (coveredBytes (flipBit (withCrc d) k j)) := by
  intro good
  have within : k < (withCrc d).length := by rwa [length_withCrc]
  have zero := crc16_eq_zero_of_check (by rw [length_flipBit, length_withCrc]; omega) good
  rw [← crc16_withCrc d, flipBit, List.set_eq_take_append_cons_drop, if_pos within] at zero
  conv at zero => rhs; rw [← List.take_append_drop k (withCrc d), List.drop_eq_getElem_cons within]
  have same := eq_of_crc16_eq zero
  rw [List.getD_eq_getElem _ _ within] at same
  exact xor_bit_ne _ bit same

end Sys2Proof.Machine

open Sys2Proof Sys2Proof.Machine

/-- Settles O7: an iteration with a byte XORed in shifts the register by the byte's lowest bit and brings the other bits
down, so eight of them shift it by the byte's bits in order. -/
theorem crcEqualsBitSerialRegister : Obligations.CrcEqualsBitSerialRegister := by
  unfold Obligations.CrcEqualsBitSerialRegister
  exact crcFold_eq_foldl_serialShift crcInitial

/-- Settles O8, which is what feeding a CRC its own two bytes leaves. -/
theorem crcOverFrameWithItsCrcIsZero : Obligations.CrcOverFrameWithItsCrcIsZero := by
  unfold Obligations.CrcOverFrameWithItsCrcIsZero
  exact crc16_withCrc

/-- Settles O9: a frame that passes has CRC 0, and the step of the CRC is injective in the byte and in the accumulator, so
two sequences that differ in one byte are not both of CRC 0. -/
theorem everySingleBitErrorIsDetected : Obligations.EverySingleBitErrorIsDetected := by
  unfold Obligations.EverySingleBitErrorIsDetected
  exact fun d k j inside bit => check_fails_of_flipBit d inside bit
end

section
/-! PROOFS. A frame from ENCODE to DECODE (R102, R120, R122), and a frame with one wrong bit at its capture (R155). -/

namespace Sys2Proof.Machine

variable {s t u : State}

/-! ## A frame loaded, copied and decoded -/

theorem toNat_loadTx_tlen {f : List Byte} (fits : f.length < 2 ^ 9) : (s.loadTx f).tlen.toNat = f.length := by
  rw [loadTx_tlen, BitVec.toNat_ofNat, Nat.mod_eq_of_lt fits]

theorem txBuffer_loadTx (wf : s.mem.wf = true) {f : List Byte} (fits : f.length < 2 ^ 9) : (s.loadTx f).txBuffer = f := by
  rw [State.txBuffer, State.tbufBytes, toNat_loadTx_tlen fits, loadTx_mem, Memory.readBytes_writeBytes wf]

/-- The transmit buffer's frame, copied into the parse buffer. -/
theorem parseFrame_eq_txBuffer (plen : u.plen = t.tlen)
    (copied : ∀ k < t.tlen.toNat, Memory.read u.mem (pbufBase + k) = Memory.read t.mem (tbufBase + k)) :
    u.parseFrame = t.txBuffer := by
  rw [State.parseFrame, plen]
  exact Memory.readBytes_congr copied

/-- A response frame decodes to the parts it was built of (R120, R122). -/
theorem decodeFrame_responseFrame (a b : Byte) {payload : List Byte} (enough : 4 ≤ payload.length) :
    let p := decodeFrame (responseFrame a b payload)
    p.pst = .ok ∧ p.slave = a ∧ p.fc = b ∧ p.payLen = BitVec.ofNat 9 payload.length := by
  have long : 8 ≤ (responseFrame a b payload).length := by rw [length_responseFrame]; omega
  have good : receivedCrc (responseFrame a b payload) = crc16 (coveredBytes (responseFrame a b payload)) := by
    rw [responseFrame, receivedCrc_withCrc, coveredBytes_withCrc]
  rw [decodeFrame_of_good_crc long good, length_responseFrame, Nat.add_sub_cancel]
  exact ⟨rfl, rfl, rfl, rfl⟩

theorem getD_responseFrame_payload (a b : Byte) {payload : List Byte} {k : Nat} (inside : k < payload.length) :
    (responseFrame a b payload).getD (k + 2) 0#8 = payload.getD k 0#8 := by
  rw [responseFrame, withCrc, List.cons_append, List.cons_append, List.getD_cons_succ, List.getD_cons_succ,
    List.getD_append _ _ _ _ inside]

theorem exec_crcVerify_of_good (enough : 2 ≤ s.plen.toNat) (fits : s.plen.toNat ≤ 256)
    (good : receivedCrc s.parseFrame = crc16 (coveredBytes s.parseFrame)) :
    exec .crcVerify s = .next ((s.setCrcAcc (crc16 (coveredBytes s.parseFrame))).setVok true) := by
  rw [exec_crcVerify_of_fits enough fits, decide_eq_true good.symm]

/-! ## A cycle without input -/

theorem nextInput_of_no_inputs (none : s.inputs = []) : s.nextInput = idleInput := by
  rw [State.nextInput, none]

theorem step_of_no_inputs (none : s.inputs = []) : step s = .next (loopPhase s.beginCycle) := by
  rw [step, nextInput_of_no_inputs none]
  rfl

end Sys2Proof.Machine

open Sys2Proof Sys2Proof.Machine

/-- Settles O17: the parse buffer's frame is the response frame, whose CRC passes and whose bytes 0, 1 and 2 onward are the
slave id, the function code and the payload. -/
theorem encodedFrameDecodesToItsParts : Obligations.EncodedFrameDecodesToItsParts := by
  unfold Obligations.EncodedFrameDecodesToItsParts
  intro s t u a b wf enough fits run plen copied
  obtain rfl := Host.Outcome.next.inj ((exec_encode_of_fits fits a b).symm.trans run)
  have payload : (s.ebufBytes s.elen.toNat).length = s.elen.toNat := Memory.length_readBytes
  have len := length_responseFrame a b (s.ebufBytes s.elen.toNat)
  rw [payload] at len
  have tlen : (s.loadTx (responseFrame a b (s.ebufBytes s.elen.toNat))).tlen.toNat = s.elen.toNat + 4 := by
    rw [toNat_loadTx_tlen (by omega), len]
  have frame : u.parseFrame = responseFrame a b (s.ebufBytes s.elen.toNat) :=
    (parseFrame_eq_txBuffer plen copied).trans (txBuffer_loadTx wf (by omega))
  have uplen : u.plen.toNat = s.elen.toNat + 4 := by rw [plen, tlen]
  refine ⟨⟨_, exec_decode_of_fits (by omega), ?_⟩, _, exec_crcVerify_of_good (by omega) (by omega) ?_⟩
  · obtain ⟨pst, slave, fc, payLen⟩ := decodeFrame_responseFrame a b (enough.trans_eq payload.symm)
    rw [frame]
    refine ⟨pst, slave, fc, by rw [payLen, payload, BitVec.ofNat_toNat, BitVec.setWidth_eq], fun k inside => ?_⟩
    calc Memory.read u.mem (0x102 + k)
      _ = Memory.read u.mem (pbufBase + (k + 2)) := congrArg _ (by simp only [pbufBase]; omega)
      _ = (responseFrame a b (s.ebufBytes s.elen.toNat)).getD (k + 2) 0#8 := by
        rw [← byteAt_parseFrame (by omega), frame, byteAt]
      _ = Memory.read s.mem (0x200 + k) := by
        rw [getD_responseFrame_payload a b (payload.symm ▸ inside)]
        exact Memory.getD_readBytes inside
  · rw [frame, responseFrame, receivedCrc_withCrc, coveredBytes_withCrc]

/-- Settles O18: the capture decodes the 8 bytes with the inverted bit, whose check fails. -/
theorem frameWithOneWrongBitIsDropped : Obligations.FrameWithOneWrongBitIsDropped := by
  unfold Obligations.FrameWithOneWrongBitIsDropped
  intro s d rest k j six inside bit polling wf none waiting
  have len : (flipBit (withCrc d) k j).length = 8 := by rw [length_flipBit, length_withCrc, six]
  have full : 8 ≤ s.rxq.length := by rw [waiting, List.length_append]; exact len.ge.trans (Nat.le_add_right ..)
  have frame : (takeFrame s.beginCycle).parseFrame = flipBit (withCrc d) k j := by
    rw [takeFrame_parseFrame (s := s.beginCycle) wf full, beginCycle_rxq, waiting]
    exact List.take_left' len
  have parsed := decodeFrame_of_bad_crc len.ge (check_fails_of_flipBit d (by omega) bit)
  rw [← frame] at parsed
  refine ⟨capture s.beginCycle, ?_, ?_⟩
  · rw [step_of_no_inputs none, loopPhase_of_full (s := s.beginCycle) polling full]
  · have left : s.rxq.drop 8 = rest := by rw [waiting]; exact List.drop_left' len
    simp [State.irq, parsed, rejectedFrame, polling, left, wrapInc]
end

section
/-! PROOFS. The invariant (`State.Inv`): it holds at reset, and each update a cycle is made of keeps it. -/

namespace Sys2Proof.Machine

variable {s : State}

/-! ## Reset -/

theorem inv_reset : State.reset.Inv := by
  constructor <;> decide

/-- The sink's record is not the engine's and outlasts a reset (R46), so its clause comes from the state before. -/
theorem inv_resetCycle (h : s.Inv) : (resetCycle s).Inv :=
  { inv_reset with framesFit := h.framesFit }

/-! ## Errors and decode results -/

theorem inv_raiseCmdError (h : s.Inv) {c : ErrCause} (cause : c ≠ .noError) : (s.raiseCmdError c).Inv :=
  { h with errRecorded := iff_of_true rfl cause }

theorem inv_writeStatus (h : s.Inv) (v : Word) : (writeStatus v s).Inv := by
  rw [writeStatus_eq]
  refine { h with errRecorded := ?_ }
  by_cases clears : v.getLsbD 8 = true
  · simp [clears]
  · simpa only [if_neg clears] using h.errRecorded

/-- The decode results' clauses (R31 to R34), for each of a decode's three outcomes. -/
theorem inv_setParsed_decodeFrame (h : s.Inv) {raw : List Byte} (fits : raw.length ≤ 256) :
    (s.setParsed (decodeFrame raw)).Inv := by
  obtain ⟨_, p⟩ | ⟨_, differ, p⟩ | ⟨enough, same, p⟩ := decodeFrame_cases raw <;> rw [p]
  · exact { h with
      fieldsValid := by simp [rejectedFrame]
      headerZero := fun _ => ⟨rfl, rfl, rfl⟩
      payloadFits := nofun
      fieldsZero := fun _ => ⟨rfl, rfl⟩
      crcsMatch := nofun
      crcsDiffer := nofun
      crcsZero := fun _ => ⟨rfl, rfl⟩ }
  · exact { h with
      fieldsValid := by simp [rejectedFrame]
      headerZero := fun _ => ⟨rfl, rfl, rfl⟩
      payloadFits := nofun
      fieldsZero := fun _ => ⟨rfl, rfl⟩
      crcsMatch := nofun
      crcsDiffer := fun _ => differ
      crcsZero := by simp [rejectedFrame] }
  · have len : (BitVec.ofNat 9 (raw.length - 4)).toNat = raw.length - 4 := by
      rw [BitVec.toNat_ofNat, Nat.mod_eq_of_lt (by omega)]
    exact { h with
      fieldsValid := by simp [recognized_iff]
      headerZero := by simp
      payloadFits := fun _ => by simp only [setParsed_parsed, len]; omega
      fieldsZero := fun unknown => ⟨if_neg (Bool.eq_false_iff.mp unknown), if_neg (Bool.eq_false_iff.mp unknown)⟩
      crcsMatch := fun _ => same
      crcsDiffer := nofun
      crcsZero := by simp }

/-! ## Buffers and frames -/

theorem isBufferOffset_of_hostWritable {a : Nat} (writable : hostWritable a = true) : isBufferOffset a = true := by
  rw [isBufferOffset, ← hostWritable, writable, Bool.true_or]

theorem inv_writeByteAt (h : s.Inv) (off : Offset) (v : Byte) : (writeByteAt off v s).Inv := by
  unfold writeByteAt
  split
  · rename_i writable
    exact { h with
      memCanonical := Memory.wf_write h.memCanonical
      memInBuffers := Memory.inBuffers_write h.memInBuffers (isBufferOffset_of_hostWritable writable) }
  · exact h

theorem inv_loadTx (h : s.Inv) {f : List Byte} (fits : f.length ≤ 256) : (s.loadTx f).Inv :=
  { h with
    memCanonical := Memory.wf_writeBytes h.memCanonical
    memInBuffers := Memory.inBuffers_writeBytes h.memInBuffers fun _ inside =>
      isBufferOffset_tbuf (Nat.lt_of_lt_of_le inside fits)
    txFits := by rw [toNat_loadTx_tlen (by omega)]; exact fits }

theorem inv_emit (h : s.Inv) {f : List Byte} (fits : f.length ≤ 256) : (s.emit f).Inv :=
  { h with
    framesFit := fun g sent => by
      obtain earlier | rfl := by simpa using sent
      · exact h.framesFit g earlier
      · exact fits }

theorem length_txBuffer (s : State) : s.txBuffer.length = s.tlen.toNat :=
  Memory.length_readBytes

/-! ## The loop -/

theorem inv_setRxq (h : s.Inv) {q : List Byte} (fits : q.length ≤ 256) : (s.setRxq q).Inv :=
  { h with fifoFits := fits }

theorem inv_endDispatch (h : s.Inv) : (endDispatch s).Inv := by
  refine { h with stoppedRun := ?_, pollingRun := ?_ } <;> cases s.run <;> simp

theorem inv_writeCtrl (h : s.Inv) (run ie : Bool) : (writeCtrl run ie s).Inv := by
  have bitsAlone (settled : s.runState = .stopped ∧ run = false ∨ s.runState = .polling ∧ run = true ∨
      s.runState = .dispatch) : (writeCtrl run ie s).Inv := by
    rw [writeCtrl_sets_bits_alone settled]
    refine { h with stoppedRun := fun stopped => ?_, pollingRun := fun polling => ?_ } <;> simp_all
  cases r : s.runState <;> cases run
  case stopped.true => rw [writeCtrl_starts r]; exact { h with stoppedRun := nofun, pollingRun := fun _ => rfl }
  case polling.false => rw [writeCtrl_stops r]; exact { h with stoppedRun := fun _ => rfl, pollingRun := nofun }
  all_goals exact bitsAlone (by simp [r])

theorem inv_linePhase (h : s.Inv) (rx : Option Byte) : (linePhase rx s).Inv := by
  cases rx with
  | none => exact h
  | some b =>
    by_cases room : s.rxq.length < 256
    · rw [linePhase_of_room b room]
      exact { h with fifoFits := by simpa using room }
    · rw [linePhase_full b (Nat.le_of_not_lt room)]
      exact { h with }

theorem inv_tickPhase (h : s.Inv) (tick : Bool) : (tickPhase tick s).Inv := by
  unfold tickPhase tickStep
  split_ifs <;> exact { h with }

theorem inv_flush (h : s.Inv) : (flush s).Inv := by
  rw [flush_eq]
  exact { h with fifoFits := Nat.zero_le 256 }

theorem inv_capture (h : s.Inv) : (capture s).Inv := by
  have len : (takeFrame s).parseFrame.length = 8 := length_parseFrame (takeFrame s)
  rw [capture_eq]
  refine { inv_setParsed_decodeFrame h (raw := (takeFrame s).parseFrame) (by omega) with
    memCanonical := Memory.wf_writeBytes h.memCanonical
    memInBuffers := Memory.inBuffers_writeBytes h.memInBuffers fun k inside => isBufferOffset_pbuf ?_
    fifoFits := ?_
    stoppedRun := fun stopped => h.stoppedRun ?_
    pollingRun := fun polling => h.pollingRun ?_ }
  · exact Nat.lt_of_lt_of_le inside ((List.length_take_le frameLen s.rxq).trans (by decide))
  · have := h.fifoFits
    simp only [List.length_drop]
    omega
  · split at stopped
    · cases stopped
    · exact stopped
  · split at polling
    · cases polling
    · exact polling

theorem inv_laterPhases (h : s.Inv) (rx : Option Byte) (tick : Bool) : (laterPhases rx tick s).Inv := by
  have before : (tickPhase tick (linePhase rx s)).Inv := inv_tickPhase (inv_linePhase h rx) tick
  obtain same | ⟨_, _, captured⟩ | ⟨_, _, _, flushed⟩ := loopPhase_cases (tickPhase tick (linePhase rx s))
  · rw [laterPhases, same]; exact before
  · rw [laterPhases, captured]; exact inv_capture before
  · rw [laterPhases, flushed]; exact inv_flush before

/-! ## The host phase -/

theorem inv_setAnswer (h : s.Inv) (a : Answer) : (s.setAnswer a).Inv :=
  { h with }

theorem inv_beginCycle (h : s.Inv) : s.beginCycle.Inv :=
  { h with }

theorem inv_hostPhase (h : s.Inv) {i : CycleInput} {u : State} (rst : i.rst = false)
    (host : hostPhase i.host s = .next u) : u.Inv := by
  have encoded (a b : Byte) (fits : s.elen.toNat ≤ 252) : (responseFrame a b (s.ebufBytes s.elen.toNat)).length ≤ 256 := by
    rw [length_responseFrame, State.ebufBytes, Memory.length_readBytes]
    omega
  apply hostPhase_property rst host State.Inv
  case stored => exact fun off v _ => inv_setAnswer (inv_writeByteAt h off v) _
  case ctrl => exact fun v _ => inv_setAnswer (inv_writeCtrl h _ _) _
  case status => exact fun v _ => inv_setAnswer (inv_writeStatus h v) _
  case refused => exact fun _ c _ cause _ => inv_setAnswer (inv_raiseCmdError h cause) _
  case decode => exact fun _ fits => inv_setAnswer (inv_setParsed_decodeFrame h ((length_parseFrame s).trans_le fits)) _
  case encode => exact fun a b _ fits => inv_setAnswer (inv_loadTx h (encoded a b fits)) _
  case encodeExc => exact fun a b c _ => inv_setAnswer (inv_loadTx h (by rw [length_exceptionFrame]; decide)) _
  case doneTx => exact fun _ _ =>
    inv_setAnswer (inv_endDispatch (inv_emit h ((length_txBuffer s).trans_le h.txFits))) _
  case doneDrop => exact fun _ _ => inv_setAnswer (inv_endDispatch h) _
  case rxFlush => exact fun _ => inv_setAnswer (inv_setRxq h (q := []) (Nat.zero_le 256)) _
  case answered | plen | elen | idleTo | diag | nop | crcInit | crcFeed | crcCompute | crcVerifyShort | crcVerify =>
    intros
    exact { h with }

end Sys2Proof.Machine

open Sys2Proof Sys2Proof.Machine

/-- Settles O42, clause by clause on a closed state. -/
theorem resetStateHasTheInvariant : Obligations.ResetStateHasTheInvariant := by
  unfold Obligations.ResetStateHasTheInvariant
  exact inv_reset

/-- Settles O43: a step is a reset, or the host phase and the later phases, and each of these keeps the invariant. -/
theorem everyCycleKeepsTheInvariant : Obligations.EveryCycleKeepsTheInvariant := by
  unfold Obligations.EveryCycleKeepsTheInvariant
  intro s t h run
  obtain ⟨_, rfl⟩ | ⟨rst, u, host, rfl⟩ := step_cases run
  · exact inv_resetCycle (inv_beginCycle h)
  · exact inv_laterPhases (inv_hostPhase (inv_beginCycle h) rst host) _ _
end

section
/-! PROOFS. One cycle (R80, R151): what runs in it, and its end when a long dispatch is over (R226). -/

namespace Sys2Proof.Machine

variable {s t : State} {i : CycleInput}

theorem step_of_inputs {rest : List CycleInput} (listed : s.inputs = i :: rest) :
    step s = cycle i { s with inputs := rest, answer := .silent, txFrame := none } := by
  rw [step, nextInput_of_inputs listed, beginCycle_of_inputs listed]

theorem cycle_of_host {a : HostAccess} (rst : i.rst = false) (host : i.host = some a) (run : hostAccess a s = .next t) :
    cycle i s = .next (laterPhases i.rx i.tick t) := by
  simp [cycle, rst, host, hostPhase, run]

/-- Both commands that end a dispatch end it with the same fields but for the transmit port's (R160, R161). -/
theorem exec_done_of_dispatch {w : Word} (done : w = encodeWord .doneTx ∨ w = encodeWord .doneDrop)
    (dispatch : s.runState = .dispatch) :
    ∃ j f l, w = encodeWord j ∧ exec j s = .next (endDispatch { s with txFrame := f, txLog := l }) := by
  obtain rfl | rfl := done
  · exact ⟨.doneTx, _, _, rfl, exec_doneTx_of_dispatch dispatch⟩
  · exact ⟨.doneDrop, s.txFrame, s.txLog, rfl, exec_doneDrop_of_dispatch dispatch⟩

end Sys2Proof.Machine

open Sys2Proof Sys2Proof.Machine

/-- Settles O23: the word is its command's one word, and its cycle is that of any command. -/
theorem stepRunsTheWrittenCommand : Obligations.StepRunsTheWrittenCommand := by
  unfold Obligations.StepRunsTheWrittenCommand
  intro s w j rx tick rest listed answer
  obtain rfl := eq_encodeWord_of_decodeWord answer
  obtain ⟨t, run⟩ := exec_answers_next j { s with inputs := rest, answer := .silent, txFrame := none }
  exact ⟨t, run, (step_of_inputs listed).trans (cycle_of_command run rx tick)⟩

/-- Settles O24, from the two branches of a cycle. -/
theorem cyclePhasesRunInOrder : Obligations.CyclePhasesRunInOrder := by
  unfold Obligations.CyclePhasesRunInOrder
  exact ⟨fun _ _ _ => step_of_inputs, fun _ s rst => cycle_of_rst rst s,
    fun _ s rst none => cycle_without_host ⟨rst, none⟩ s, fun _ _ _ _ => cycle_of_host⟩

/-- Settles O32: the command leaves POLLING with ELAPSED as it stands, past IDLE_TO, so the loop phase of its cycle
flushes. -/
theorem longDispatchIsFollowedByFlush : Obligations.LongDispatchIsFollowedByFlush := by
  unfold Obligations.LongDispatchIsFollowedByFlush
  intro s w done dispatch polls few late
  obtain ⟨j, f, l, rfl, run⟩ := exec_done_of_dispatch done dispatch
  have polling : ((endDispatch { s with txFrame := f, txLog := l }).setAnswer .wrote).runState = .polling := by simp [polls]
  refine ⟨_, (cycle_of_command_alone run).trans (congrArg _ (loopPhase_of_expired polling few late)), ?_⟩
  by_cases empty : s.rxq = [] <;> simp [polls, empty, wrapInc]
end

section
/-! PROOFS. The host port (R60 to R64): which accesses are accepted, what a read answers and leaves, what a write leaves,
and the window. -/

namespace Sys2Proof.Machine

variable {s t : State} {i : CycleInput}

/-! ## Accepted accesses -/

theorem accepted_iff (off : Offset) (n : Nat) :
    accepted off n = true ↔
      off.toNat < 0x100 ∧ n = 4 ∧ off.toNat % 4 = 0 ∨ 0x100 ≤ off.toNat ∧ off.toNat < 0x400 ∧ n = 1 := by
  simp only [accepted, Bool.or_eq_true, Bool.and_eq_true, decide_eq_true_eq, and_assoc]

theorem accepted_word {off : Offset} (low : off.toNat < 0x100) (aligned : off.toNat % 4 = 0) : accepted off 4 = true :=
  (accepted_iff off 4).mpr (.inl ⟨low, rfl, aligned⟩)

theorem accepted_byte {off : Offset} (high : 0x100 ≤ off.toNat) : accepted off 1 = true :=
  (accepted_iff off 1).mpr (.inr ⟨high, off.isLt, rfl⟩)

theorem hostAccess_of_accepted {a : HostAccess} (acc : acceptedAccess a = true) : hostAccess a s = busAccess a s :=
  if_pos acc

/-! ## The one way a step stops -/

theorem andThen_eq_fault_iff {o : Host.Outcome State Fault Refusal} {f : State → State} {r : Fault} :
    andThen o f = .fault r ↔ o = .fault r := by
  cases o <;> simp [andThen]

theorem hostAccess_fault_iff (a : HostAccess) : hostAccess a s = .fault .busError ↔ acceptedAccess a = false := by
  refine ⟨fun stops => Bool.eq_false_iff.mpr fun acc => ?_, hostAccess_unaccepted⟩
  obtain ⟨t, answers⟩ := hostAccess_accepted (s := s) acc
  rw [answers] at stops
  cases stops

theorem cycle_fault_iff :
    cycle i s = .fault .busError ↔ i.rst = false ∧ ∃ a, i.host = some a ∧ acceptedAccess a = false := by
  cases rst : i.rst with
  | true => simp [cycle_of_rst rst]
  | false => cases host : i.host <;> simp [cycle, rst, host, hostPhase, andThen_eq_fault_iff, hostAccess_fault_iff]

/-- Every step that does not stop goes on. -/
theorem cycle_goes_on (runs : cycle i s ≠ .fault .busError) : ∃ t, cycle i s = .next t := by
  cases rst : i.rst with
  | true => exact ⟨_, cycle_of_rst rst s⟩
  | false =>
    cases host : i.host with
    | none => exact ⟨_, cycle_without_host ⟨rst, host⟩ s⟩
    | some a =>
      have acc : acceptedAccess a = true := Bool.of_not_eq_false fun bad => runs (cycle_fault_iff.mpr ⟨rst, a, host, bad⟩)
      obtain ⟨u, answers⟩ := hostAccess_accepted (s := s) acc
      exact ⟨_, cycle_of_host rst host answers⟩

/-! ## A read's answer -/

theorem regAt_of_reserved {off : Offset} (high : 0x040 ≤ off.toNat) : regAt off = none := by
  cases r : regAt off with
  | none => rfl
  | some reg =>
    obtain rfl := offset_of_regAt r
    cases reg <;> exact absurd high (by decide)

theorem readWordAt_of_reserved {off : Offset} (high : 0x040 ≤ off.toNat) : readWordAt s off = 0#32 := by
  rw [readWordAt, regAt_of_reserved high]

theorem isBufferOffset_iff (a : Nat) : isBufferOffset a = true ↔ 0x100 ≤ a ∧ a < 0x2FC ∨ 0x300 ≤ a ∧ a < 0x400 := by
  simp only [isBufferOffset, Bool.or_eq_true, Bool.and_eq_true, decide_eq_true_eq, pbufBase, ebufBase, ebufSize, tbufBase,
    windowSize]

theorem readByteAt_of_buffer {off : Offset} (buffer : isBufferOffset off.toNat = true) :
    readByteAt s off = Memory.read s.mem off.toNat :=
  if_pos buffer

theorem readByteAt_of_reserved {off : Offset} (reserved : ¬isBufferOffset off.toNat = true) : readByteAt s off = 0#8 :=
  if_neg reserved

/-! ## The answer and the later phases: no phase reads it -/

theorem linePhase_setAnswer (rx : Option Byte) (a : Answer) :
    linePhase rx (s.setAnswer a) = (linePhase rx s).setAnswer a := by
  cases rx with
  | none => rfl
  | some b =>
    by_cases room : s.rxq.length < 256
    · rw [linePhase_of_room b room, linePhase_of_room (s := s.setAnswer a) b room]
      rfl
    · have full := Nat.le_of_not_lt room
      rw [linePhase_full b full, linePhase_full (s := s.setAnswer a) b full]
      rfl

theorem tickPhase_setAnswer (tick : Bool) (a : Answer) :
    tickPhase tick (s.setAnswer a) = (tickPhase tick s).setAnswer a := by
  cases tick with
  | false => rfl
  | true =>
    by_cases stopped : s.runState = .stopped
    · rw [tickPhase_of_stopped stopped, tickPhase_of_stopped (s := s.setAnswer a) stopped]
    · rw [tickPhase_of_running stopped, tickPhase_of_running (s := s.setAnswer a) stopped]
      rfl

theorem capture_setAnswer (a : Answer) : capture (s.setAnswer a) = (capture s).setAnswer a := by
  have parse : (takeFrame (s.setAnswer a)).parseFrame = (takeFrame s).parseFrame := rfl
  rw [capture_eq, capture_eq, parse]
  rfl

theorem flush_setAnswer (a : Answer) : flush (s.setAnswer a) = (flush s).setAnswer a := by
  rw [flush_eq, flush_eq]
  rfl

theorem loopPhase_setAnswer (a : Answer) : loopPhase (s.setAnswer a) = (loopPhase s).setAnswer a := by
  by_cases polling : s.runState = .polling
  · rcases Nat.lt_or_ge s.rxq.length 8 with few | full
    · rcases Nat.lt_or_ge s.idleTo.toNat s.elapsed.toNat with late | early
      · rw [loopPhase_of_expired polling few late, loopPhase_of_expired (s := s.setAnswer a) polling few late,
          flush_setAnswer]
      · rw [loopPhase_of_waiting polling few early, loopPhase_of_waiting (s := s.setAnswer a) polling few early]
    · rw [loopPhase_of_full polling full, loopPhase_of_full (s := s.setAnswer a) polling full, capture_setAnswer]
  · rw [loopPhase_of_not_polling polling, loopPhase_of_not_polling (s := s.setAnswer a) polling]

theorem laterPhases_setAnswer (rx : Option Byte) (tick : Bool) (a : Answer) :
    laterPhases rx tick (s.setAnswer a) = (laterPhases rx tick s).setAnswer a := by
  rw [laterPhases, linePhase_setAnswer, tickPhase_setAnswer, loopPhase_setAnswer, laterPhases]

/-- A cycle with an accepted read is the cycle without it, with the read's answer (R63). -/
theorem cycle_of_read {off : Offset} {n : AccessSize} (rst : i.rst = false)
    (host : i.host = some { off := off, op := .read n }) (acc : accepted off (accessBytes n) = true) :
    ∃ t, cycle { i with host := none } s = .next t ∧ cycle i s = .next { t with answer := busRead s off n } := by
  have read : hostAccess { off := off, op := .read n } s = .next (s.setAnswer (busRead s off n)) :=
    hostAccess_of_accepted acc
  refine ⟨_, cycle_without_host (i := { i with host := none }) ⟨rst, rfl⟩ s, ?_⟩
  rw [cycle_of_host rst host read, laterPhases_setAnswer]
  rfl

/-! ## What a write leaves -/

theorem hostAccess_write_byte {off : Offset} (high : 0x100 ≤ off.toNat) (b : Byte) :
    hostAccess { off := off, op := .write1 b } s = .next ((writeByteAt off b s).setAnswer .wrote) :=
  hostAccess_of_accepted (accepted_byte high)

theorem hostWritable_iff (a : Nat) : hostWritable a = true ↔ 0x100 ≤ a ∧ a < 0x2FC := by
  simp only [hostWritable, Bool.and_eq_true, decide_eq_true_eq, pbufBase, ebufBase, ebufSize]

theorem writeByteAt_of_writable {off : Offset} (writable : hostWritable off.toNat = true) (b : Byte) :
    writeByteAt off b s = s.setMem (Memory.write s.mem off.toNat b) :=
  if_pos writable

theorem writeByteAt_of_not_writable {off : Offset} (other : ¬hostWritable off.toNat = true) (b : Byte) :
    writeByteAt off b s = s :=
  if_neg other

/-- A write of an offset without a register is accepted and ignored (R41). -/
theorem hostAccess_write_reserved {off : Offset} (high : 0x040 ≤ off.toNat) (low : off.toNat < 0x100)
    (aligned : off.toNat % 4 = 0) (v : Word) :
    hostAccess { off := off, op := .write4 v } s = .next (s.setAnswer .wrote) := by
  have written : hostAccess { off := off, op := .write4 v } s = andThen (writeWordAt off v s) (·.setAnswer .wrote) :=
    hostAccess_of_accepted (accepted_word low aligned)
  rw [written, writeWordAt, regAt_of_reserved high]
  rfl

/-- The registers the host cannot write (R41). -/
theorem hostAccess_write_read_only {off : Offset}
    (readOnly : off ∈ [0x00C#10, 0x010#10, 0x018#10, 0x01C#10, 0x020#10, 0x024#10, 0x02C#10, 0x030#10, 0x038#10]) (v : Word) :
    hostAccess { off := off, op := .write4 v } s = .next (s.setAnswer .wrote) := by
  simp only [List.mem_cons, List.not_mem_nil, or_false] at readOnly
  obtain rfl | rfl | rfl | rfl | rfl | rfl | rfl | rfl | rfl := readOnly
  exacts [hostAccess_write_register s .errcause v, hostAccess_write_register s .crc v,
    hostAccess_write_register s .pstat v, hostAccess_write_register s .phdr v, hostAccess_write_register s .pfld v,
    hostAccess_write_register s .pcrc v, hostAccess_write_register s .tlen v, hostAccess_write_register s .rxcnt v,
    hostAccess_write_register s .elapsed v]

/-! ## The same write again -/

theorem writeCtrl_again (run ie : Bool) (a : Answer) :
    writeCtrl run ie ((writeCtrl run ie s).setAnswer a) = (writeCtrl run ie s).setAnswer a := by
  have settled : ((writeCtrl run ie s).setAnswer a).runState = .stopped ∧ run = false ∨
      ((writeCtrl run ie s).setAnswer a).runState = .polling ∧ run = true ∨
      ((writeCtrl run ie s).setAnswer a).runState = .dispatch := by
    rw [setAnswer_runState, writeCtrl_runState]
    by_cases dispatch : s.runState = .dispatch <;> cases run <;> simp [dispatch]
  rw [writeCtrl_sets_bits_alone settled]
  apply State.ext <;> simp

theorem Memory.write_again {m : Memory} (wf : m.wf = true) (a : Nat) (b : Byte) : (m.write a b).write a b = m.write a b := by
  have written : (m.write a b).wf = true := Memory.wf_write wf
  refine Memory.ext_of_read (Memory.wf_write written) written fun x => ?_
  rw [Memory.read_write written]
  split
  · rename_i same
    rw [same, Memory.read_write_same wf]
  · rfl

theorem writeByteAt_again (wf : s.mem.wf = true) (off : Offset) (b : Byte) (a : Answer) :
    writeByteAt off b ((writeByteAt off b s).setAnswer a) = (writeByteAt off b s).setAnswer a := by
  by_cases writable : hostWritable off.toNat = true
  · rw [writeByteAt_of_writable writable, writeByteAt_of_writable writable, setAnswer_mem, setMem_mem,
      Memory.write_again wf]
    rfl
  · rw [writeByteAt_of_not_writable writable, writeByteAt_of_not_writable writable]

end Sys2Proof.Machine

open Sys2Proof Sys2Proof.Machine

/-- Settles O35: reset and an accepted access go on, and so does a cycle without access. -/
theorem onlyUnacceptedAccessesFault : Obligations.OnlyUnacceptedAccessesFault := by
  unfold Obligations.OnlyUnacceptedAccessesFault
  exact ⟨accepted_iff, fun s => ⟨cycle_fault_iff, cycle_goes_on⟩⟩

/-- Settles O36: no later phase reads or writes the answer, so the read changes nothing else. -/
theorem readsAnswerAndChangeNothing : Obligations.ReadsAnswerAndChangeNothing := by
  unfold Obligations.ReadsAnswerAndChangeNothing
  refine ⟨fun i s off rst low aligned host => cycle_of_read rst host (accepted_word low aligned),
    fun i s off rst high host => cycle_of_read rst host (accepted_byte high),
    fun s off high => readWordAt_of_reserved high, fun s => readWordAt_offset s .cmd, fun s off from_ upto => ?_,
    fun s off high buffer => ?_⟩
  · exact readByteAt_of_reserved (by rw [isBufferOffset_iff]; omega)
  · exact readByteAt_of_buffer (by rw [isBufferOffset_iff]; omega)

/-- Settles O39: a register's write is `writeReg`, an offset without one ignores it, and a byte is stored below 0x2FC. -/
theorem hostWritesTakeTheirEffect : Obligations.HostWritesTakeTheirEffect := by
  unfold Obligations.HostWritesTakeTheirEffect
  refine ⟨fun s v => ⟨?_, ?_, hostAccess_write_register s .idleTo v, hostAccess_write_register s .diag v, fun t run => ?_⟩,
    fun s v off ignored => ?_, fun s b off high => ?_, fun s b off wf high low => ?_⟩
  · rw [← BitVec.setWidth_eq_extractLsb' (by decide)]
    exact hostAccess_write_register s .plen v
  · rw [← BitVec.setWidth_eq_extractLsb' (by decide)]
    exact hostAccess_write_register s .elen v
  · have written := hostAccess_write_register s .cmd v
    rwa [writeReg, run] at written
  · obtain readOnly | ⟨high, low, aligned⟩ := ignored
    · exact hostAccess_write_read_only readOnly v
    · exact hostAccess_write_reserved high low aligned v
  · rw [hostAccess_write_byte (by omega), writeByteAt_of_not_writable (by rw [hostWritable_iff]; omega)]
    rfl
  · refine ⟨Memory.write s.mem off.toNat b, ?_, Memory.read_write_same wf, fun x other => Memory.read_write_other other⟩
    rw [hostAccess_write_byte high, writeByteAt_of_writable ((hostWritable_iff _).mpr ⟨high, low⟩)]
    rfl

/-- Settles O40, register by register: the second write finds what the first one left. -/
theorem repeatedWriteIsOneWrite : Obligations.RepeatedWriteIsOneWrite := by
  unfold Obligations.RepeatedWriteIsOneWrite
  intro s t u ⟨off, op⟩ wf target first second
  have once {f : State → State} (effect : ∀ s : State, hostAccess ⟨off, op⟩ s = .next ((f s).setAnswer .wrote))
      (again : f ((f s).setAnswer .wrote) = (f s).setAnswer .wrote) : u = t := by
    obtain rfl := Host.Outcome.next.inj ((effect s).symm.trans first)
    obtain rfl := Host.Outcome.next.inj ((effect _).symm.trans second)
    rw [again]
    rfl
  obtain ⟨registers, v, rfl⟩ | ⟨high, b, rfl⟩ := target
  · simp only [List.mem_cons, List.not_mem_nil, or_false] at registers
    obtain rfl | rfl | rfl | rfl := registers
    · exact once (hostAccess_write_ctrl v) (writeCtrl_again _ _ _)
    · exact once (fun s => hostAccess_write_register s .plen v) rfl
    · exact once (fun s => hostAccess_write_register s .elen v) rfl
    · exact once (fun s => hostAccess_write_register s .idleTo v) rfl
  · exact once (fun s => hostAccess_write_byte high b) (writeByteAt_again wf off b _)

/-- Settles O41, by the window's two edges. -/
theorem windowIsDecodedFromBase : Obligations.WindowIsDecodedFromBase := by
  unfold Obligations.WindowIsDecodedFromBase
  intro addr op
  by_cases inside : Config.base ≤ addr ∧ addr < Config.base + 1024
  · have port : portAccess addr op = some { off := BitVec.ofNat 10 (addr - Config.base), op := op } := if_pos inside
    refine ⟨by simp only [port, reduceCtorEq, false_iff]; omega, fun a seen => ?_⟩
    obtain rfl := Option.some.inj (port.symm.trans seen)
    exact ⟨by simp only [BitVec.toNat_ofNat]; omega, rfl⟩
  · have port : portAccess addr op = none := if_neg inside
    exact ⟨by simp only [port, true_iff]; omega, fun a seen => by cases port.symm.trans seen⟩
end

section
/-! PROOFS. The registers as read (R24 to R40): where each field stands in its word, and every read after reset (R221). -/

namespace Sys2Proof.Machine

variable (s : State)

/-! ## Layouts that several registers share -/

theorem halves_of_word (hi lo : Half) :
    BitVec.extractLsb' 0 16 (hi ++ lo : Word) = lo ∧ BitVec.extractLsb' 16 16 (hi ++ lo : Word) = hi :=
  ⟨BitVec.extractLsb'_append_eq_right, BitVec.extractLsb'_append_eq_left⟩

theorem zero_append_len (x : Len) : (0#23 ++ x : Word) = x.setWidth 32 := by
  rw [BitVec.setWidth_eq_append (by decide : 9 ≤ 32), BitVec.cast_eq]

/-! ## Registers with a layout of their own -/

theorem ctrlWord_fields :
    s.ctrlWord.extractLsb' 0 1 = BitVec.ofBool s.run ∧ s.ctrlWord.extractLsb' 1 1 = BitVec.ofBool s.ie ∧
    s.ctrlWord.extractLsb' 2 30 = 0#30 := by
  simp (disch := decide) only [State.ctrlWord, BitVec.extractLsb'_append_eq_of_le, BitVec.extractLsb'_append_eq_of_add_le]
  simp

theorem statusWord_fields :
    s.statusWord.extractLsb' 2 1 = BitVec.ofBool s.irq ∧ s.statusWord.extractLsb' 3 1 = BitVec.ofBool s.vok ∧
    s.statusWord.extractLsb' 8 1 = BitVec.ofBool s.cmdErr ∧ s.statusWord.extractLsb' 9 1 = BitVec.ofBool s.rxOvf := by
  simp (disch := decide) only [State.statusWord, BitVec.extractLsb'_append_eq_of_le, BitVec.extractLsb'_append_eq_of_add_le]
  simp

theorem errcauseWord_fields (c : BitVec 4) :
    BitVec.extractLsb' 0 4 (0#28 ++ c : Word) = c ∧ BitVec.extractLsb' 4 28 (0#28 ++ c : Word) = 0#28 :=
  ⟨BitVec.extractLsb'_append_eq_right, BitVec.extractLsb'_append_eq_left⟩

theorem pstatWord_fields (p : Parsed) :
    p.pstatWord.extractLsb' 0 2 = p.pst.code ∧ p.pstatWord.extractLsb' 2 2 = 0#2 ∧
    p.pstatWord.extractLsb' 4 1 = BitVec.ofBool p.fv ∧ p.pstatWord.extractLsb' 5 27 = 0#27 := by
  simp (disch := decide) only [Parsed.pstatWord, BitVec.extractLsb'_append_eq_of_le,
    BitVec.extractLsb'_append_eq_of_add_le]
  simp

theorem phdrWord_fields (p : Parsed) :
    p.phdrWord.extractLsb' 0 8 = p.slave ∧ p.phdrWord.extractLsb' 8 8 = p.fc ∧
    p.phdrWord.extractLsb' 16 9 = p.payLen ∧ p.phdrWord.extractLsb' 25 7 = 0#7 := by
  simp (disch := decide) only [Parsed.phdrWord, BitVec.extractLsb'_append_eq_of_le,
    BitVec.extractLsb'_append_eq_of_add_le]
  simp

theorem lstate_eq :
    s.lstate =
      if s.runState = .stopped then 0#2 else if s.runState = .dispatch then 3#2 else if s.rxq = [] then 1#2 else 2#2 := by
  cases r : s.runState <;> simp [State.lstate, r]

theorem toNat_rxcnt (fits : s.rxq.length ≤ 256) : s.rxcnt.toNat = s.rxq.length := by
  rw [State.rxcnt, BitVec.toNat_ofNat, Nat.mod_eq_of_lt (by omega)]

/-! ## Reads after reset -/

theorem readReg_reset (r : Reg) :
    readReg State.reset r = if r = .crc then 0x0000FFFF#32 else if r = .idleTo then 0x00002710#32 else 0#32 := by
  cases r <;> rfl

end Sys2Proof.Machine

open Sys2Proof Sys2Proof.Machine

/-- Settles O37, register by register, from where each word's fields stand. -/
theorem registersReadTheirFields : Obligations.RegistersReadTheirFields := by
  unfold Obligations.RegistersReadTheirFields
  intro s
  have word (r : Reg) := readWordAt_offset s r
  have ctrl : readWordAt s 0x000#10 = s.ctrlWord := word .ctrl
  have status : readWordAt s 0x004#10 = s.statusWord := word .status
  have errcause : readWordAt s 0x00C#10 = 0#28 ++ s.errCause.code := word .errcause
  have crc : readWordAt s 0x010#10 = 0#16 ++ s.crcAcc := word .crc
  have pstat : readWordAt s 0x018#10 = s.parsed.pstatWord := word .pstat
  have phdr : readWordAt s 0x01C#10 = s.parsed.phdrWord := word .phdr
  have pfld : readWordAt s 0x020#10 = s.parsed.fb ++ s.parsed.fa := word .pfld
  have pcrc : readWordAt s 0x024#10 = s.parsed.crcCalc ++ s.parsed.crcRx := word .pcrc
  have diag : readWordAt s 0x03C#10 = s.discCnt ++ s.ferrCnt := word .diag
  have rxcnt : readWordAt s 0x030#10 = s.rxcnt.setWidth 32 := (word .rxcnt).trans (zero_append_len _)
  obtain ⟨run, ie, ctrlRest⟩ := ctrlWord_fields s
  obtain ⟨irq, vok, cmdErr, rxOvf⟩ := statusWord_fields s
  obtain ⟨pst, pstatGap, fv, pstatRest⟩ := pstatWord_fields s.parsed
  obtain ⟨slave, fc, payLen, phdrRest⟩ := phdrWord_fields s.parsed
  obtain ⟨cause, causeRest⟩ := errcauseWord_fields s.errCause.code
  obtain ⟨acc, accRest⟩ := halves_of_word 0#16 s.crcAcc
  obtain ⟨fa, fb⟩ := halves_of_word s.parsed.fb s.parsed.fa
  obtain ⟨crcRx, crcCalc⟩ := halves_of_word s.parsed.crcCalc s.parsed.crcRx
  obtain ⟨ferr, disc⟩ := halves_of_word s.discCnt s.ferrCnt
  rw [ctrl, status, errcause, crc, pstat, phdr, pfld, pcrc, diag, rxcnt, statusWord_lstate, lstate_eq]
  exact ⟨run, ie, ctrlRest, rfl, irq, vok, statusWord_reserved_low s, cmdErr, rxOvf, statusWord_reserved_high s,
    word .cmd, cause, causeRest, acc, accRest, (word .plen).trans (zero_append_len _), pst, pstatGap, fv, pstatRest,
    slave, fc, payLen, phdrRest, fa, fb, crcRx, crcCalc, (word .elen).trans (zero_append_len _),
    (word .tlen).trans (zero_append_len _),
    fun fits => (BitVec.toNat_setWidth_of_le (by decide)).trans (toNat_rxcnt s fits), word .idleTo, word .elapsed, ferr,
    disc⟩

/-- Settles O34, by whether the offset has a register, and for each register. -/
theorem readsAfterReset : Obligations.ReadsAfterReset := by
  unfold Obligations.ReadsAfterReset
  intro off
  refine ⟨?_, ite_self _⟩
  cases r : regAt off with
  | some reg =>
    obtain rfl := offset_of_regAt r
    rw [readWordAt_offset, readReg_reset]
    cases reg <;> rfl
  | none =>
    have other (reg : Reg) : off ≠ reg.offset := fun same => by simp [same, regAt_offset] at r
    have notCrc : off ≠ 0x010#10 := other .crc
    have notIdleTo : off ≠ 0x034#10 := other .idleTo
    rw [readWordAt, r, if_neg notCrc, if_neg notIdleTo]
end

section
/-! PROOFS. What each phase leaves alone, field by field (R29, R35, R36, R39 to R44): the layer the rules about the whole
machine are read from. -/

namespace Sys2Proof.Machine

variable {s t u : State} {i : CycleInput}

/-! ## A step outside reset -/

theorem step_phases (run : step s = .next t) (rst : s.nextInput.rst = false) :
    ∃ u, hostPhase s.nextInput.host s.beginCycle = .next u ∧ t = laterPhases s.nextInput.rx s.nextInput.tick u := by
  obtain ⟨reset, _⟩ | ⟨_, phases⟩ := step_cases run
  · simp [rst] at reset
  · exact phases

theorem hostPhase_of_cycleCommand {j : Instr} (cmd : cycleCommand i = some j) (run : exec j s = .next t) :
    hostPhase i.host s = .next (t.setAnswer .wrote) := by
  obtain ⟨w, ⟨_, host⟩, answer⟩ := writesReg_of_cycleCommand cmd
  obtain rfl := eq_encodeWord_of_decodeWord answer
  rw [host, hostPhase, hostAccess_write_register, writeReg, command_encodeWord, run]
  rfl

/-! ## Phase 1, by field -/

section
variable (rst : i.rst = false) (h : hostPhase i.host s = .next u)
include rst h

theorem hostPhase_crcAcc :
    u.crcAcc = s.crcAcc ∨ cycleCommand i = some .crcInit ∨ (∃ a, cycleCommand i = some (.crcFeed a)) ∨
      cycleCommand i = some .crcCompute ∨ cycleCommand i = some .crcVerify := by
  apply hostPhase_property rst h
  case crcInit => exact fun cmd => .inr (.inl cmd)
  case crcFeed => exact fun a cmd => .inr (.inr (.inl ⟨a, cmd⟩))
  case crcCompute => exact fun cmd => .inr (.inr (.inr (.inl cmd)))
  case crcVerify => exact fun _ _ cmd => .inr (.inr (.inr (.inr cmd)))
  all_goals
    intros
    exact .inl (by simp)

theorem hostPhase_tlen :
    u.tlen = s.tlen ∨ (∃ a b, cycleCommand i = some (.encode a b)) ∨ ∃ a b c, cycleCommand i = some (.encodeExc a b c) := by
  apply hostPhase_property rst h
  case encode => exact fun a b cmd _ => .inr (.inl ⟨a, b, cmd⟩)
  case encodeExc => exact fun a b c cmd => .inr (.inr ⟨a, b, c, cmd⟩)
  all_goals
    intros
    exact .inl (by simp)

theorem hostPhase_elen : u.elen = s.elen ∨ ∃ v, writesReg i .elen v := by
  apply hostPhase_property rst h
  case elen => exact fun v written => .inr ⟨v, written⟩
  all_goals
    intros
    exact .inl (by simp)

theorem hostPhase_plen : u.plen = s.plen ∨ ∃ v, writesReg i .plen v := by
  apply hostPhase_property rst h
  case plen => exact fun v written => .inr ⟨v, written⟩
  all_goals
    intros
    exact .inl (by simp)

theorem hostPhase_ie : u.ie = s.ie ∨ ∃ v, writesReg i .ctrl v ∧ v.getLsbD 1 = u.ie := by
  apply hostPhase_property rst h
  case ctrl => exact fun v written => .inr ⟨v, written, by simp⟩
  all_goals
    intros
    exact .inl (by simp)

theorem hostPhase_vok : u.vok = s.vok ∨ cycleCommand i = some .crcVerify := by
  apply hostPhase_property rst h
  case crcVerifyShort => exact fun cmd => .inr cmd
  case crcVerify => exact fun _ _ cmd => .inr cmd
  all_goals
    intros
    exact .inl (by simp)

theorem hostPhase_parsed : u.parsed = s.parsed ∨ cycleCommand i = some .decode := by
  apply hostPhase_property rst h
  case decode => exact fun cmd _ => .inr cmd
  all_goals
    intros
    exact .inl (by simp)

/-- CMD_ERR is set by a refused command and cleared by the host's write-1-to-clear (R193, R201). -/
theorem hostPhase_cmdErr :
    u.cmdErr = s.cmdErr ∨ (u.cmdErr = true ∧ u.errCause ≠ .noError ∧ ∃ w, writesReg i .cmd w) ∨
      (u.cmdErr = false ∧ u.errCause = .noError ∧ ∃ v, writesReg i .status v ∧ v.getLsbD 8 = true) := by
  apply hostPhase_property rst h
  case refused => exact fun w c written cause _ => .inr (.inl ⟨rfl, cause, w, written⟩)
  case status =>
    intro v written
    cases clears : v.getLsbD 8 with
    | true => exact .inr (.inr ⟨by simp [clears], by simp [clears], v, written, clears⟩)
    | false => exact .inl (by rw [setAnswer_cmdErr, writeStatus_cmdErr, clears]; rfl)
  all_goals
    intros
    exact .inl (by simp)

theorem hostPhase_rxOvf : u.rxOvf = s.rxOvf ∨ (u.rxOvf = false ∧ ∃ v, writesReg i .status v ∧ v.getLsbD 9 = true) := by
  apply hostPhase_property rst h
  case status =>
    intro v written
    cases clears : v.getLsbD 9 with
    | true => exact .inr ⟨by simp [clears], v, written, clears⟩
    | false => exact .inl (by rw [setAnswer_rxOvf, writeStatus_rxOvf, clears]; rfl)
  all_goals
    intros
    exact .inl (by simp)

/-- ELAPSED is set by a start of the loop alone (R39, R159). -/
theorem hostPhase_elapsed :
    u.elapsed = s.elapsed ∨ (s.runState = .stopped ∧ u.runState = .polling ∧ u.elapsed = 0#32 ∧
      ∃ v, writesReg i .ctrl v ∧ v.getLsbD 0 = true) := by
  apply hostPhase_property rst h
  case ctrl =>
    intro v written
    by_cases starts : s.runState = .stopped ∧ v.getLsbD 0 = true
    · obtain ⟨stopped, run⟩ := starts
      rw [run, writeCtrl_starts stopped]
      exact .inr ⟨stopped, rfl, rfl, v, written, run⟩
    · exact .inl (by rw [setAnswer_elapsed, writeCtrl_elapsed, if_neg starts])
  all_goals
    intros
    exact .inl (by simp)

/-- RUNSTATE is moved by a start, a stop, or the end of a dispatch (R159 to R161). -/
theorem hostPhase_runState :
    u.runState = s.runState ∨
      (s.runState = .stopped ∧ u.runState = .polling ∧ ∃ v, writesReg i .ctrl v ∧ v.getLsbD 0 = true) ∨
      (s.runState = .polling ∧ u.runState = .stopped ∧ ∃ v, writesReg i .ctrl v ∧ v.getLsbD 0 = false) ∨
      (s.runState = .dispatch ∧ u.runState ≠ .dispatch ∧
        (cycleCommand i = some .doneTx ∨ cycleCommand i = some .doneDrop)) := by
  have ended : (endDispatch s).runState ≠ .dispatch := by cases r : s.run <;> simp [r]
  apply hostPhase_property rst h
  case ctrl =>
    intro v written
    cases r : s.runState <;> cases run : v.getLsbD 0
    case stopped.true => exact .inr (.inl ⟨rfl, by simp [writeCtrl_runState, r], v, written, run⟩)
    case polling.false => exact .inr (.inr (.inl ⟨rfl, by simp [writeCtrl_runState, r], v, written, run⟩))
    all_goals exact .inl (by simp [writeCtrl_runState, r])
  case doneTx => exact fun cmd dispatch => .inr (.inr (.inr ⟨dispatch, ended, .inl cmd⟩))
  case doneDrop => exact fun cmd dispatch => .inr (.inr (.inr ⟨dispatch, ended, .inr cmd⟩))
  all_goals
    intros
    exact .inl (by simp)

/-- The FIFO is kept or emptied (R162). -/
theorem hostPhase_rxq_le : u.rxq = s.rxq ∨ u.rxq = [] := by
  rw [hostPhase_rxq rst h]
  split
  · exact .inr rfl
  · exact .inl rfl

/-- Only DONE_TX in DISPATCH hands a frame to the sink (R46, R160). -/
theorem hostPhase_tx_of_not_sending (quiet : ¬(cycleCommand i = some .doneTx ∧ s.runState = .dispatch)) :
    u.txFrame = s.txFrame ∧ u.txLog = s.txLog := by
  apply hostPhase_property rst h (fun u => u.txFrame = s.txFrame ∧ u.txLog = s.txLog)
  case doneTx => exact fun cmd dispatch => absurd ⟨cmd, dispatch⟩ quiet
  all_goals
    intros
    exact ⟨by simp, by simp⟩

/-- A buffer byte is changed by the host's write of it, or, from TBUF[0] on, by ENCODE and ENCODE_EXC (R42 to R44). -/
theorem hostPhase_read_mem (x : Nat) :
    Memory.read u.mem x = Memory.read s.mem x ∨
      (x < 0x2FC ∧ ∃ (off : Offset) (b : Byte), off.toNat = x ∧ i.host = some { off := off, op := .write1 b }) ∨
      (0x300 ≤ x ∧ ((∃ a b, cycleCommand i = some (.encode a b)) ∨ ∃ a b c, cycleCommand i = some (.encodeExc a b c))) := by
  have loaded (f : List Byte) : x < 0x300 → Memory.read (s.loadTx f).mem x = Memory.read s.mem x := fun below =>
    read_loadTx_outside (.inl below)
  apply hostPhase_property rst h
  case stored =>
    intro off b host
    by_cases writable : hostWritable off.toNat = true
    · rw [writeByteAt_of_writable writable]
      by_cases here : x = off.toNat
      · exact .inr (.inl ⟨here ▸ ((hostWritable_iff _).mp writable).2, off, b, here.symm, host⟩)
      · exact .inl (Memory.read_write_other here)
    · rw [writeByteAt_of_not_writable writable]
      exact .inl rfl
  case encode =>
    intro a b cmd _
    rcases Nat.lt_or_ge x 0x300 with below | above
    · exact .inl (loaded _ below)
    · exact .inr (.inr ⟨above, .inl ⟨a, b, cmd⟩⟩)
  case encodeExc =>
    intro a b c cmd
    rcases Nat.lt_or_ge x 0x300 with below | above
    · exact .inl (loaded _ below)
    · exact .inr (.inr ⟨above, .inr ⟨a, b, c, cmd⟩⟩)
  all_goals
    intros
    exact .inl (by simp)

theorem hostPhase_mem_wf (wf : s.mem.wf = true) : u.mem.wf = true := by
  apply hostPhase_property rst h (fun u => u.mem.wf = true)
  case stored =>
    intro off b _
    by_cases writable : hostWritable off.toNat = true
    · rw [writeByteAt_of_writable writable]
      exact Memory.wf_write wf
    · rw [writeByteAt_of_not_writable writable]
      exact wf
  case encode => exact fun _ _ _ _ => Memory.wf_writeBytes wf
  case encodeExc => exact fun _ _ _ _ => Memory.wf_writeBytes wf
  all_goals
    intros
    simpa using wf

end

/-! ## Phases 2 to 4 -/

theorem linePhase_rxOvf (rx : Option Byte) (s : State) :
    (linePhase rx s).rxOvf = s.rxOvf ∨ ((linePhase rx s).rxOvf = true ∧ rx ≠ none ∧ 256 ≤ s.rxq.length) := by
  cases rx with
  | none => exact .inl rfl
  | some b =>
    rcases Nat.lt_or_ge s.rxq.length 256 with room | full
    · rw [linePhase_of_room b room]
      exact .inl rfl
    · rw [linePhase_full b full]
      exact .inr ⟨rfl, nofun, full⟩

/-- Only a capture writes buffer memory in the later phases, and only PBUF[0..8) (R155). -/
theorem laterPhases_read_mem (s : State) (rx : Option Byte) (tick : Bool) (x : Nat) :
    Memory.read (laterPhases rx tick s).mem x = Memory.read s.mem x ∨
      (0x100 ≤ x ∧ x < 0x108 ∧ (laterPhases rx tick s).plen = 8#9 ∧ (laterPhases rx tick s).elapsed = 0#32) := by
  obtain ⟨_, _, mem, _⟩ | ⟨plen, elapsed, _, _, _, mem, _⟩ := laterPhases_cases s rx tick
  · exact .inl (by rw [mem])
  · by_cases inside : 0x100 ≤ x ∧ x < 0x108
    · exact .inr ⟨inside.1, inside.2, plen, elapsed⟩
    · have len := List.length_take_le 8 (linePhase rx s).rxq
      exact .inl (by rw [mem, Memory.read_writeBytes_other (by simp only [pbufBase]; omega)])

/-- The later phases move RUNSTATE by a capture of a good frame alone (R155, R158). -/
theorem laterPhases_runState (s : State) (rx : Option Byte) (tick : Bool) :
    (laterPhases rx tick s).runState = s.runState ∨
      (s.runState = .polling ∧ 7 ≤ s.rxq.length ∧ (laterPhases rx tick s).runState = .dispatch ∧
        (laterPhases rx tick s).parsed.pst = .ok ∧ (laterPhases rx tick s).plen = 8#9 ∧
        (laterPhases rx tick s).elapsed = 0#32) := by
  obtain ⟨_, _, _, same, _⟩ | ⟨plen, elapsed, polling, enough, _, _, ⟨good, pst, _⟩ | ⟨bad, _⟩⟩ := laterPhases_cases s rx tick
  · exact .inl same
  · exact .inr ⟨polling, enough, good, pst, plen, elapsed⟩
  · exact .inl (bad.trans polling.symm)

end Sys2Proof.Machine
end

section
/-! PROOFS. The rules about the whole machine (R23, R26, R29, R35 to R40, R42 to R48): a step outside reset is phase 1 and
then phases 2 to 4, and each rule is read from what the phases do to its field. -/

namespace Sys2Proof.Machine

variable {s t u : State} {i : CycleInput}

theorem cycleCommand_of_rst (rst : i.rst = true) : cycleCommand i = none := by
  simp [cycleCommand, rst]

/-- A step into DISPATCH from elsewhere is the capture of a good frame (R155). -/
theorem step_into_dispatch (run : step s = .next t) (rst : s.nextInput.rst = false) (before : s.runState ≠ .dispatch)
    (after : t.runState = .dispatch) :
    t.parsed.pst = .ok ∧ t.plen = 8#9 ∧ t.elapsed = 0#32 ∧ 7 ≤ s.rxq.length := by
  obtain ⟨u, host, rfl⟩ := step_phases run rst
  have outside : u.runState ≠ .dispatch := by
    obtain same | ⟨_, polling, _⟩ | ⟨_, stopped, _⟩ | ⟨dispatch, _⟩ := hostPhase_runState rst host
    · rwa [same]
    · simp [polling]
    · simp [stopped]
    · exact absurd dispatch before
  obtain same | ⟨_, enough, _, pst, plen, elapsed⟩ := laterPhases_runState u s.nextInput.rx s.nextInput.tick
  · exact absurd (same.symm.trans after) outside
  · refine ⟨pst, plen, elapsed, ?_⟩
    obtain same | empty := hostPhase_rxq_le rst host
    · rwa [same] at enough
    · rw [empty] at enough
      exact absurd enough (by decide)

/-- A step out of DISPATCH is the end of the dispatch (R158). -/
theorem step_out_of_dispatch (run : step s = .next t) (rst : s.nextInput.rst = false) (before : s.runState = .dispatch)
    (after : t.runState ≠ .dispatch) :
    cycleCommand s.nextInput = some .doneTx ∨ cycleCommand s.nextInput = some .doneDrop := by
  obtain ⟨u, host, rfl⟩ := step_phases run rst
  by_contra other
  obtain ⟨held, _⟩ := hostPhase_keeps_dispatch (s := s.beginCycle) before rst (fun cmd => other (.inl cmd))
    (fun cmd => other (.inr cmd)) host
  rw [laterPhases_of_dispatch held, tickPhase_runState, linePhase_runState] at after
  exact after held

theorem step_ie (run : step s = .next t) (rst : s.nextInput.rst = false) :
    t.ie = s.ie ∨ ∃ v, writesReg s.nextInput .ctrl v ∧ v.getLsbD 1 = t.ie := by
  obtain ⟨u, host, rfl⟩ := step_phases run rst
  rw [laterPhases_ie]
  exact hostPhase_ie (s := s.beginCycle) rst host

theorem irq_eq_false_iff : s.irq = false ↔ s.ie = false ∨ s.runState ≠ .dispatch := by
  rw [State.irq, Bool.and_eq_false_iff, decide_eq_false_iff_not]

theorem resetCycle_irq (s : State) : (resetCycle s).irq = false := rfl

/-- The flush of a step, when its loop phase discards at least one byte (R156). -/
theorem laterPhases_discards {rx : Option Byte} {tick : Bool} (moved : (laterPhases rx tick u).discCnt ≠ u.discCnt) :
    (laterPhases rx tick u).discCnt = u.discCnt + 1#16 ∧ (laterPhases rx tick u).rxq = [] ∧
      (laterPhases rx tick u).elapsed = 0#32 ∧ (laterPhases rx tick u).runState = .polling ∧ (linePhase rx u).rxq ≠ [] := by
  have kept : (tickPhase tick (linePhase rx u)).discCnt = u.discCnt := by simp
  rw [laterPhases] at moved ⊢
  obtain same | ⟨_, _, captured⟩ | ⟨polling, _, _, flushed⟩ := loopPhase_cases (tickPhase tick (linePhase rx u))
  · exact absurd (by rw [same, kept]) moved
  · exact absurd (by rw [captured, capture_discCnt, kept]) moved
  · rw [flushed] at moved ⊢
    have waiting : (linePhase rx u).rxq ≠ [] := fun empty => moved (by simp [empty])
    exact ⟨by simp [waiting, wrapInc], flush_rxq _, flush_elapsed _, (flush_runState _).trans polling, waiting⟩

end Sys2Proof.Machine

open Sys2Proof Sys2Proof.Machine

/-- Settles O44: CRC_ACC is written in phase 1 alone. -/
theorem onlyCrcCommandsWriteCrcAcc : Obligations.OnlyCrcCommandsWriteCrcAcc := by
  unfold Obligations.OnlyCrcCommandsWriteCrcAcc
  intro s t run rst moved
  obtain ⟨u, host, rfl⟩ := step_phases run rst
  obtain same | cmd := hostPhase_crcAcc rst host
  · exact absurd ((laterPhases_crcAcc u _ _).trans same) moved
  · exact cmd

/-- Settles O45, phase by phase. -/
theorem onlyTicksRestartsAndTheLoopMoveElapsed : Obligations.OnlyTicksRestartsAndTheLoopMoveElapsed := by
  unfold Obligations.OnlyTicksRestartsAndTheLoopMoveElapsed
  refine ⟨fun a s t access moved => ?_, fun rx s => linePhase_elapsed s rx, fun tick s moved => ?_, fun s moved => ?_⟩
  · obtain same | ⟨stopped, polling, zero, v, ⟨_, host⟩, run⟩ :=
      hostPhase_elapsed (i := ⟨false, some a, none, false⟩) rfl access
    · exact absurd same moved
    · exact ⟨stopped, polling, zero, v, Option.some.inj host, run⟩
  · cases tick with
    | false => exact absurd rfl moved
    | true => exact ⟨rfl, fun stopped => moved (by rw [tickPhase_of_stopped stopped])⟩
  · obtain same | ⟨polling, full, captured⟩ | ⟨polling, _, late, flushed⟩ := loopPhase_cases s
    · exact absurd (by rw [same]) moved
    · exact ⟨polling, by rw [captured, capture_elapsed], .inl full⟩
    · exact ⟨polling, by rw [flushed, flush_elapsed], .inr (idleExpired_iff.mp late)⟩

/-- Settles O46: a host write reaches no byte of TBUF and a capture none beyond PBUF[7]. -/
theorem onlyEncodersWriteTransmitBuffer : Obligations.OnlyEncodersWriteTransmitBuffer := by
  unfold Obligations.OnlyEncodersWriteTransmitBuffer
  intro s t run rst noEncode noEncodeExc
  obtain ⟨u, host, rfl⟩ := step_phases run rst
  have noEncoder : ¬((∃ a b, cycleCommand s.nextInput = some (.encode a b)) ∨
      ∃ a b c, cycleCommand s.nextInput = some (.encodeExc a b c)) := by
    rintro (⟨a, b, cmd⟩ | ⟨a, b, c, cmd⟩)
    · exact noEncode a b cmd
    · exact noEncodeExc a b c cmd
  refine ⟨?_, fun k inside => ?_⟩
  · rw [laterPhases_tlen, (hostPhase_tlen rst host).resolve_right noEncoder, beginCycle_tlen]
  · have later := (laterPhases_read_mem u s.nextInput.rx s.nextInput.tick (0x300 + k)).resolve_right (by omega)
    obtain same | ⟨low, _⟩ | ⟨_, encoder⟩ := hostPhase_read_mem rst host (0x300 + k)
    · rw [later, same, beginCycle_mem]
    · omega
    · exact absurd encoder noEncoder

/-- Settles O47: an encoder writes from TBUF[0] on and a capture none beyond PBUF[7]. -/
theorem onlyHostWritesChangeEncoderBuffer : Obligations.OnlyHostWritesChangeEncoderBuffer := by
  unfold Obligations.OnlyHostWritesChangeEncoderBuffer
  intro s t run rst
  obtain ⟨u, host, rfl⟩ := step_phases run rst
  refine ⟨fun moved => ?_, fun k inside moved => ?_⟩
  · rw [laterPhases_elen] at moved
    exact (hostPhase_elen rst host).resolve_left moved
  · rw [(laterPhases_read_mem u s.nextInput.rx s.nextInput.tick (0x200 + k)).resolve_right (by omega)] at moved
    obtain same | ⟨_, written⟩ | ⟨above, _⟩ := hostPhase_read_mem rst host (0x200 + k)
    · exact absurd same moved
    · exact written
    · omega

/-- Settles O48: what phase 1 left alone and the step changed is a capture's. -/
theorem onlyHostAndCaptureChangeParseBuffer : Obligations.OnlyHostAndCaptureChangeParseBuffer := by
  unfold Obligations.OnlyHostAndCaptureChangeParseBuffer
  intro s t run rst
  obtain ⟨u, host, rfl⟩ := step_phases run rst
  refine ⟨fun moved => ?_, fun k inside moved => ?_⟩
  · obtain ⟨same, _⟩ | ⟨plen, elapsed, _⟩ := laterPhases_cases u s.nextInput.rx s.nextInput.tick
    · rw [same] at moved
      exact .inl ((hostPhase_plen rst host).resolve_left moved)
    · exact .inr ⟨plen, elapsed⟩
  · obtain later | ⟨_, low, plen, elapsed⟩ := laterPhases_read_mem u s.nextInput.rx s.nextInput.tick (0x100 + k)
    · rw [later] at moved
      obtain same | ⟨_, written⟩ | ⟨above, _⟩ := hostPhase_read_mem rst host (0x100 + k)
      · exact absurd same moved
      · exact .inl written
      · omega
    · exact .inr ⟨by omega, plen, elapsed⟩

/-- Settles O49, from what phase 1 and the later phases do to RUNSTATE. -/
theorem loopStateMovesOnlyByItsRules : Obligations.LoopStateMovesOnlyByItsRules := by
  unfold Obligations.LoopStateMovesOnlyByItsRules
  intro s t run
  refine ⟨fun rst => ?_, fun rst => ⟨fun before after => ?_, fun before after => ?_, step_into_dispatch run rst,
    step_out_of_dispatch run rst⟩⟩
  · obtain ⟨_, rfl⟩ | ⟨noRst, _⟩ := step_cases run
    · rfl
    · simp [rst] at noRst
  all_goals
    obtain ⟨u, host, rfl⟩ := step_phases run rst
    have moves := hostPhase_runState rst host
    have later := laterPhases_runState u s.nextInput.rx s.nextInput.tick
    simp only [beginCycle_runState, before] at moves
  · obtain same | ⟨_, _, start⟩ | ⟨other, _⟩ | ⟨other, _⟩ := moves
    · obtain kept | ⟨polling, _⟩ := later
      · exact absurd (kept.trans same) after
      · simp [same] at polling
    · exact start
    · simp at other
    · simp at other
  · obtain same | ⟨other, _⟩ | ⟨_, _, stop⟩ | ⟨other, _⟩ := moves
    · obtain kept | ⟨_, _, dispatch, _⟩ := later
      · simp [kept, same] at after
      · simp [dispatch] at after
    · simp at other
    · exact stop
    · simp at other

/-- Settles O50: DONE_TX in DISPATCH emits the transmit buffer, and no other input touches the port or the record. -/
theorem framesLeaveOnlyByDoneTx : Obligations.FramesLeaveOnlyByDoneTx := by
  unfold Obligations.FramesLeaveOnlyByDoneTx
  intro s t run
  obtain ⟨rst, rfl⟩ | ⟨rst, u, host, rfl⟩ := step_cases run
  · rw [if_neg (by simp [cycleCommand_of_rst rst])]
    exact ⟨rfl, (List.append_nil _).symm⟩
  rw [laterPhases_txFrame, laterPhases_txLog]
  by_cases sends : cycleCommand s.nextInput = some .doneTx ∧ s.runState = .dispatch
  · obtain ⟨cmd, dispatch⟩ := sends
    have sent := hostPhase_of_cycleCommand cmd (exec_doneTx_of_dispatch (s := s.beginCycle) dispatch)
    obtain rfl := Host.Outcome.next.inj (sent.symm.trans host)
    rw [if_pos ⟨cmd, dispatch⟩]
    exact ⟨rfl, rfl⟩
  · obtain ⟨frame, log⟩ := hostPhase_tx_of_not_sending (s := s.beginCycle) rst host sends
    rw [if_neg sends, frame, log]
    exact ⟨rfl, (List.append_nil _).symm⟩

/-- Settles O51, flag by flag. -/
theorem flagsChangeOnlyByTheirEvents : Obligations.FlagsChangeOnlyByTheirEvents := by
  unfold Obligations.FlagsChangeOnlyByTheirEvents
  intro s t run rst
  obtain ⟨u, host, rfl⟩ := step_phases run rst
  have cmdErr := hostPhase_cmdErr rst host
  have hostOvf := hostPhase_rxOvf rst host
  have lineOvf := linePhase_rxOvf s.nextInput.rx u
  rw [beginCycle_cmdErr] at cmdErr
  rw [beginCycle_rxOvf] at hostOvf
  rw [laterPhases_vok, laterPhases_cmdErr, laterPhases_errCause, laterPhases_rxOvf]
  refine ⟨fun moved => (hostPhase_vok rst host).resolve_left moved, fun before after => ?_, fun before after => ?_,
    fun before after => ?_, fun before after => ?_, fun moved => ?_⟩
  · obtain same | ⟨_, cause, w, written⟩ | ⟨cleared, _⟩ := cmdErr
    · simp [before, after] at same
    · exact ⟨w, written, cause⟩
    · simp [after] at cleared
  · obtain same | ⟨raised, _⟩ | ⟨_, cause, v, written, bit⟩ := cmdErr
    · simp [before, after] at same
    · simp [after] at raised
    · exact ⟨v, written, bit, cause⟩
  · obtain same | ⟨_, byte, full⟩ := lineOvf
    · obtain hostSame | ⟨cleared, _⟩ := hostOvf
      · simp [← same, after, before] at hostSame
      · simp [← same, after] at cleared
    · refine ⟨byte, ?_⟩
      obtain kept | empty := hostPhase_rxq_le rst host
      · rwa [kept] at full
      · rw [empty] at full
        exact absurd full (by decide)
  · obtain same | ⟨lost, _⟩ := lineOvf
    · obtain hostSame | ⟨_, cleared⟩ := hostOvf
      · simp [← same, after, before] at hostSame
      · exact cleared
    · simp [after] at lost
  · obtain ⟨_, same, _⟩ | ⟨plen, elapsed, _⟩ := laterPhases_cases u s.nextInput.rx s.nextInput.tick
    · rw [same] at moved
      exact .inl ((hostPhase_parsed rst host).resolve_left moved)
    · exact .inr ⟨plen, elapsed⟩

/-- Settles O52: phase 1 leaves the counters, and the loop phase counts as its two laws say. -/
theorem diagCountsDropsAndDiscards : Obligations.DiagCountsDropsAndDiscards := by
  unfold Obligations.DiagCountsDropsAndDiscards
  intro s t run rst kept
  obtain ⟨u, host, rfl⟩ := step_phases run rst
  obtain ⟨ferr, disc⟩ := hostPhase_counters rst host kept
  rw [beginCycle_ferrCnt] at ferr
  rw [beginCycle_discCnt] at disc
  refine ⟨?_, ?_, u, host, fun wf => ?_, ?_⟩
  · rw [← ferr]
    obtain ⟨_, _, _, _, same, _⟩ | ⟨plen, _, _, _, _, _, ⟨_, _, same⟩ | ⟨polling, pst, counted⟩⟩ :=
      laterPhases_cases u s.nextInput.rx s.nextInput.tick
    · exact .inl same
    · exact .inl same
    · exact .inr ⟨counted, pst, polling, plen⟩
  · rw [← disc]
    refine or_iff_not_imp_left.mpr fun moved => ?_
    obtain ⟨counted, fifo, elapsed, polling, waiting⟩ := laterPhases_discards moved
    refine ⟨counted, fifo, elapsed, polling, or_iff_not_imp_right.mpr fun none => ?_⟩
    rw [not_not.mp none] at waiting
    obtain same | empty := hostPhase_rxq_le rst host
    · exact fun empty => waiting (same.trans empty)
    · exact absurd empty waiting
  · have counted := loopPhase_ferrCnt (s := tickPhase s.nextInput.tick (linePhase s.nextInput.rx u))
      (by rw [tickPhase_mem, linePhase_mem]; exact hostPhase_mem_wf rst host wf)
    rw [tickPhase_ferrCnt, linePhase_ferrCnt, ferr] at counted
    exact counted
  · have counted := loopPhase_discCnt (tickPhase s.nextInput.tick (linePhase s.nextInput.rx u))
    rw [tickPhase_discCnt, linePhase_discCnt, disc] at counted
    exact counted

/-- Settles O53: `irq` is IE and DISPATCH, and the rules say what moves each. -/
theorem interruptFollowsDispatchAndEnable : Obligations.InterruptFollowsDispatchAndEnable := by
  unfold Obligations.InterruptFollowsDispatchAndEnable
  intro s t run
  cases rst : s.nextInput.rst with
  | true =>
    obtain ⟨_, rfl⟩ | ⟨noRst, _⟩ := step_cases run
    · exact ⟨fun _ raised => absurd raised (by simp [resetCycle_irq]), fun _ _ => .inl rfl⟩
    · simp [rst] at noRst
  | false =>
    refine ⟨fun before after => ?_, fun before after => ?_⟩
    · obtain ⟨enabled, dispatch⟩ := (irq_iff t).mp after
      obtain same | ⟨v, written, bit⟩ := step_ie run rst
      · have outside := (irq_eq_false_iff.mp before).resolve_left (by simp [← same, enabled])
        exact .inr ⟨outside, dispatch, (step_into_dispatch run rst outside dispatch).1⟩
      · exact .inl ⟨v, written, bit.trans enabled⟩
    · obtain ⟨enabled, dispatch⟩ := (irq_iff s).mp before
      obtain disabled | ended := irq_eq_false_iff.mp after
      · obtain same | ⟨v, written, bit⟩ := step_ie run rst
        · simp [← same, disabled] at enabled
        · exact .inr (.inl ⟨v, written, bit.trans disabled⟩)
      · exact .inr (.inr (step_out_of_dispatch run rst dispatch ended))
end

section
/-! PROOFS. Runs on line traffic alone (R154 to R157, R164 to R166): the cycles in which a polling loop only waits, the one
in which it flushes, and the one in which it captures. -/

namespace Sys2Proof.Machine

variable {s t u : State} {i : CycleInput} {rest : List CycleInput}

/-! ## Runs, cycle by cycle -/

theorem runCycles_succ (run : step s = .next t) (n : Nat) : runCycles (n + 1) s = runCycles n t := by
  rw [runCycles, run]

theorem runCycles_one (run : step s = .next t) : runCycles 1 s = .next t :=
  runCycles_succ run 0

/-! ## What bytes and ticks leave before the loop acts -/

/-- `t` is polling and has, since `s`, queued the bytes and counted the ticks of `is`, and nothing more; the inputs left
are `rest`. -/
structure Waited (s : State) (is rest : List CycleInput) (t : State) : Prop where
  polling : t.runState = .polling
  fifo : t.rxq = s.rxq ++ is.filterMap (·.rx)
  elapsed : t.elapsed.toNat = min (s.elapsed.toNat + is.countP (·.tick)) 0xFFFFFFFF
  idleTo : t.idleTo = s.idleTo
  mem : t.mem = s.mem
  discCnt : t.discCnt = s.discCnt
  inputs : t.inputs = rest

theorem Waited.refl (polling : s.runState = .polling) (listed : s.inputs = rest) : Waited s [] rest s where
  polling := polling
  fifo := (List.append_nil _).symm
  elapsed := by
    have := s.elapsed.isLt
    simp only [List.countP_nil]
    omega
  idleTo := rfl
  mem := rfl
  discCnt := rfl
  inputs := listed

theorem Waited.trans {is js rest' : List CycleInput} (first : Waited s is rest' t) (second : Waited t js rest u) :
    Waited s (is ++ js) rest u where
  polling := second.polling
  fifo := by rw [second.fifo, first.fifo, List.filterMap_append, List.append_assoc]
  elapsed := by
    rw [second.elapsed, first.elapsed, List.countP_append]
    omega
  idleTo := second.idleTo.trans first.idleTo
  mem := second.mem.trans first.mem
  discCnt := second.discCnt.trans first.discCnt
  inputs := second.inputs

theorem linePhase_rxq_of_room (rx : Option Byte) (room : s.rxq.length < 256) :
    (linePhase rx s).rxq = s.rxq ++ rx.toList := by
  cases rx with
  | none => exact (List.append_nil _).symm
  | some b => rw [linePhase_of_room b room, Option.toList_some]

theorem toNat_tickPhase_elapsed (running : s.runState ≠ .stopped) (tick : Bool) :
    (tickPhase tick s).elapsed.toNat = min (s.elapsed.toNat + tick.toNat) 0xFFFFFFFF := by
  have := s.elapsed.isLt
  rw [tickPhase_elapsed_of_running running]
  cases tick <;> simp only [Bool.toNat_false, Bool.toNat_true, if_true, BitVec.toNat_ofNat, Bool.false_eq_true, if_false] <;>
    omega

/-- A polling cycle of line traffic is the loop phase of a state that has waited. -/
theorem exists_step_eq_loopPhase (polling : s.runState = .polling) (room : s.rxq.length < 256) (quiet : lineOnly i)
    (listed : s.inputs = i :: rest) : ∃ u, step s = .next (loopPhase u) ∧ Waited s [i] rest u := by
  have run : step s = .next (laterPhases i.rx i.tick s.beginCycle) := by
    rw [step, nextInput_of_inputs listed, cycle_without_host quiet]
  exact ⟨_, run, {
    polling := by simp [polling]
    fifo := by
      rw [tickPhase_rxq, linePhase_rxq_of_room (s := s.beginCycle) _ room]
      cases rx : i.rx <;> simp [rx]
    elapsed := by
      rw [toNat_tickPhase_elapsed (by simp [polling]), linePhase_elapsed]
      cases tick : i.tick <;> simp [tick]
    idleTo := by simp
    mem := by simp
    discCnt := by simp
    inputs := by simp [listed] }⟩

/-- While fewer than 8 bytes wait and ELAPSED does not pass IDLE_TO the loop does not act (R157). -/
theorem runCycles_waits {is : List CycleInput} (polling : s.runState = .polling) (quiet : ∀ i ∈ is, lineOnly i)
    (few : (s.rxq ++ is.filterMap (·.rx)).length < 8)
    (early : min (s.elapsed.toNat + is.countP (·.tick)) 0xFFFFFFFF ≤ s.idleTo.toNat) (listed : s.inputs = is ++ rest) :
    ∃ t, runCycles is.length s = .next t ∧ Waited s is rest t := by
  induction is generalizing s with
  | nil => exact ⟨s, rfl, Waited.refl polling listed⟩
  | cons i is ih =>
    have bytes : (i :: is).filterMap (·.rx) = [i].filterMap (·.rx) ++ is.filterMap (·.rx) := List.filterMap_append (l := [i])
    have ticks : (i :: is).countP (·.tick) = [i].countP (·.tick) + is.countP (·.tick) := List.countP_append (l₁ := [i])
    rw [bytes, ← List.append_assoc] at few
    rw [ticks] at early
    have few' := few
    rw [List.length_append, List.length_append] at few'
    obtain ⟨u, run, waited⟩ := exists_step_eq_loopPhase polling (by omega) (quiet i List.mem_cons_self) listed
    have idle : loopPhase u = u :=
      loopPhase_of_waiting waited.polling (by rw [waited.fifo, List.length_append]; omega)
        (by rw [waited.elapsed, waited.idleTo]; omega)
    rw [idle] at run
    obtain ⟨t, more, waitedMore⟩ := ih waited.polling (fun j later => quiet j (List.mem_cons_of_mem i later))
      (by rwa [waited.fifo]) (by rw [waited.elapsed, waited.idleTo]; omega) waited.inputs
    exact ⟨t, (runCycles_succ run _).trans more, waited.trans waitedMore⟩

/-! ## The flush after IDLE_TO + 1 ticks -/

section
variable {before : List CycleInput} {last : CycleInput} (polling : s.runState = .polling) (restarted : s.elapsed = 0#32)
  (quiet : ∀ i ∈ before ++ [last], lineOnly i) (count : before.countP (·.tick) = s.idleTo.toNat)
  (few : (s.rxq ++ (before ++ [last]).filterMap (·.rx)).length < 8) (listed : s.inputs = before ++ last :: rest)
include polling restarted quiet count few listed

/-- Up to the IDLE_TO-th tick after a restart the loop only waits (R156). -/
theorem runCycles_before_flush {n : Nat} (upto : n ≤ before.length) :
    ∃ t, runCycles n s = .next t ∧ Waited s (before.take n) (before.drop n ++ last :: rest) t ∧
      t.elapsed.toNat = (before.take n).countP (·.tick) := by
  have bytes : ((before.take n).filterMap (·.rx)).length ≤ ((before ++ [last]).filterMap (·.rx)).length :=
    (((List.take_sublist n before).trans (List.sublist_append_left before [last])).filterMap _).length_le
  have ticks : (before.take n).countP (·.tick) ≤ s.idleTo.toNat := count ▸ (List.take_sublist n before).countP_le
  have bound := s.idleTo.isLt
  rw [List.length_append] at few
  obtain ⟨t, run, waited⟩ := runCycles_waits (is := before.take n) (rest := before.drop n ++ last :: rest) polling
    (fun i member => quiet i (List.mem_append_left _ (List.mem_of_mem_take member))) (by rw [List.length_append]; omega)
    (by rw [restarted, BitVec.toNat_zero]; omega) (by rw [listed, ← List.append_assoc, List.take_append_drop])
  rw [List.length_take, Nat.min_eq_left upto] at run
  refine ⟨t, run, waited, ?_⟩
  rw [waited.elapsed, restarted, BitVec.toNat_zero]
  omega

/-- The next tick passes IDLE_TO and the loop phase of its cycle flushes (R156). -/
theorem runCycles_flushes (finite : s.idleTo ≠ 0xFFFFFFFF#32) (tick : last.tick = true) :
    ∃ u, runCycles (before.length + 1) s = .next (flush u) ∧ Waited s (before ++ [last]) rest u := by
  obtain ⟨t, run, waited, elapsed⟩ := runCycles_before_flush polling restarted quiet count few listed (le_refl _)
  rw [List.take_length] at waited elapsed
  rw [List.drop_length] at waited
  have fifo := few
  rw [List.filterMap_append, ← List.append_assoc, ← waited.fifo, List.length_append] at fifo
  obtain ⟨u, more, waitedMore⟩ := exists_step_eq_loopPhase waited.polling (by omega) (quiet last (by simp)) waited.inputs
  have whole := waited.trans waitedMore
  have below : s.idleTo.toNat ≠ 0xFFFFFFFF := fun top => finite (BitVec.eq_of_toNat_eq top)
  have bound := s.idleTo.isLt
  have late : u.idleTo.toNat < u.elapsed.toNat := by
    rw [whole.idleTo, waitedMore.elapsed, elapsed, count, List.countP_singleton, if_pos tick]
    omega
  rw [loopPhase_of_expired whole.polling (by rwa [whole.fifo]) late] at more
  exact ⟨u, (runCycles_add run).trans (runCycles_one more), whole⟩

end

/-! ## The capture of a frame's eighth byte -/

theorem filterMap_rx_lines (bs : List Byte) : (bs.map fun b => lineInput (.rx b)).filterMap (·.rx) = bs := by
  rw [List.filterMap_map]
  exact List.filterMap_some

theorem countP_tick_lines (bs : List Byte) : (bs.map fun b => lineInput (.rx b)).countP (·.tick) = 0 := by
  simp [List.countP_map, List.countP_eq_zero, lineInput]

theorem lineOnly_rx (b : Byte) : lineOnly (lineInput (.rx b)) := ⟨rfl, rfl⟩

theorem lineOnly_tick : lineOnly (lineInput .tick) := ⟨rfl, rfl⟩

/-- Eight bytes, one a cycle, into an empty FIFO with the timer just restarted: the loop waits seven cycles and captures
in the eighth (R155, R157). -/
theorem runCycles_captures {f : List Byte} (polling : s.runState = .polling) (empty : s.rxq = [])
    (restarted : s.elapsed = 0#32) (eight : f.length = 8) (listed : s.inputs = f.map fun b => lineInput (.rx b)) :
    ∃ u, runCycles 8 s = .next (capture u) ∧ u.runState = .polling ∧ u.rxq = f ∧ u.mem = s.mem := by
  obtain ⟨g, b, rfl⟩ : ∃ g b, f = g ++ [b] :=
    ⟨_, _, (List.dropLast_append_getLast (List.ne_nil_of_length_pos (by omega))).symm⟩
  have seven : g.length = 7 := by simpa using eight
  obtain ⟨t, run, waited⟩ := runCycles_waits (is := g.map fun b => lineInput (.rx b)) (rest := [lineInput (.rx b)]) polling
    (fun i member => by obtain ⟨b, _, rfl⟩ := List.mem_map.mp member; exact lineOnly_rx b)
    (by rw [empty, List.nil_append, filterMap_rx_lines, seven]; decide)
    (by rw [restarted, countP_tick_lines]; exact Nat.zero_le _) (by rw [listed, List.map_append]; rfl)
  have queued : t.rxq = g := by rw [waited.fifo, empty, List.nil_append, filterMap_rx_lines]
  obtain ⟨u, more, waitedMore⟩ := exists_step_eq_loopPhase waited.polling (by rw [queued, seven]; decide) (lineOnly_rx b)
    waited.inputs
  have frame : u.rxq = g ++ [b] := by rw [waitedMore.fifo, queued]; rfl
  rw [loopPhase_of_full waitedMore.polling (by rw [frame, eight])] at more
  rw [List.length_map, seven] at run
  exact ⟨u, (runCycles_add run).trans (runCycles_one more), waitedMore.polling, frame, waitedMore.mem.trans waited.mem⟩

/-- A 6-byte sequence with its CRC decodes OK to its first two bytes (R102 (a), R120). -/
theorem decodeFrame_withCrc_six {d : List Byte} (six : d.length = 6) :
    (decodeFrame (withCrc d)).pst = .ok ∧ (decodeFrame (withCrc d)).slave = d.getD 0 0#8 ∧
      (decodeFrame (withCrc d)).fc = d.getD 1 0#8 := by
  have long : 8 ≤ (withCrc d).length := by rw [length_withCrc, six]
  rw [decodeFrame_of_good_crc long (by rw [receivedCrc_withCrc, coveredBytes_withCrc])]
  exact ⟨rfl, List.getD_append _ _ _ _ (by omega), List.getD_append _ _ _ _ (by omega)⟩

/-! ## Any length of line traffic -/

theorem lineOnly_nextInput (quiet : ∀ i ∈ s.inputs, lineOnly i) : lineOnly s.nextInput := by
  cases listed : s.inputs with
  | nil => rw [nextInput_of_no_inputs listed]; exact ⟨rfl, rfl⟩
  | cons i rest => rw [nextInput_of_inputs listed]; exact quiet i (by simp [listed])

theorem step_quiet (quiet : ∀ i ∈ s.inputs, lineOnly i) :
    step s = .next (laterPhases s.nextInput.rx s.nextInput.tick s.beginCycle) :=
  cycle_without_host (lineOnly_nextInput quiet) s.beginCycle

theorem laterPhases_of_not_polling (idle : s.runState ≠ .polling) (rx : Option Byte) (tick : Bool) :
    laterPhases rx tick s = tickPhase tick (linePhase rx s) :=
  loopPhase_of_not_polling (by simpa using idle)

/-- Outside POLLING line traffic moves neither RUNSTATE nor the decode results (R153, R154, R158). -/
theorem runCycles_quiet_of_not_polling (n : Nat) (quiet : ∀ i ∈ s.inputs, lineOnly i) (idle : s.runState ≠ .polling) :
    ∃ t, runCycles n s = .next t ∧ t.runState = s.runState ∧ t.parsed = s.parsed := by
  induction n generalizing s with
  | zero => exact ⟨s, rfl, rfl, rfl⟩
  | succ n ih =>
    have run := step_quiet quiet
    rw [laterPhases_of_not_polling (s := s.beginCycle) idle] at run
    obtain ⟨t, more, same, parsed⟩ := ih (s := tickPhase s.nextInput.tick (linePhase s.nextInput.rx s.beginCycle))
      (fun i member => quiet i (List.mem_of_mem_tail (by simpa using member))) (by simpa using idle)
    exact ⟨t, (runCycles_succ run n).trans more, by simpa using same, by simpa using parsed⟩

/-- A polling loop leaves POLLING on line traffic only into DISPATCH with an OK frame, and stays there (R166). -/
theorem runCycles_quiet_of_polling (n : Nat) (quiet : ∀ i ∈ s.inputs, lineOnly i) (polling : s.runState = .polling) :
    ∃ t, runCycles n s = .next t ∧ (t.runState = .polling ∨ (t.runState = .dispatch ∧ t.parsed.pst = .ok)) := by
  induction n generalizing s with
  | zero => exact ⟨s, rfl, .inl polling⟩
  | succ n ih =>
    have run := step_quiet quiet
    have quietAfter : ∀ i ∈ (laterPhases s.nextInput.rx s.nextInput.tick s.beginCycle).inputs, lineOnly i :=
      fun i member => quiet i (List.mem_of_mem_tail (by simpa using member))
    obtain same | ⟨_, _, dispatch, good, _⟩ := laterPhases_runState s.beginCycle s.nextInput.rx s.nextInput.tick
    · obtain ⟨t, more, ends⟩ := ih quietAfter (same.trans polling)
      exact ⟨t, (runCycles_succ run n).trans more, ends⟩
    · obtain ⟨t, more, same, parsed⟩ := runCycles_quiet_of_not_polling n quietAfter (by simp [dispatch])
      exact ⟨t, (runCycles_succ run n).trans more, .inr ⟨same.trans dispatch, by rw [parsed, good]⟩⟩

end Sys2Proof.Machine

open Sys2Proof Sys2Proof.Machine

/-- Settles O54, by induction on the number of cycles; a loop in DISPATCH holds its state and its decode results. -/
theorem noLineTrafficStopsTheLoop : Obligations.NoLineTrafficStopsTheLoop := by
  unfold Obligations.NoLineTrafficStopsTheLoop
  intro n s quiet
  by_cases polling : s.runState = .polling
  · obtain ⟨t, run, ends⟩ := runCycles_quiet_of_polling n quiet polling
    exact ⟨t, run, fun _ => ends, fun other => absurd polling other⟩
  · obtain ⟨t, run, same, _⟩ := runCycles_quiet_of_not_polling n quiet polling
    exact ⟨t, run, fun other => absurd other polling, fun _ => same⟩

/-- Settles O55: the loop waits through the first IDLE_TO ticks and flushes in the cycle of the next. -/
theorem watchdogFiresAfterIdleToPlusOneTicks : Obligations.WatchdogFiresAfterIdleToPlusOneTicks := by
  unfold Obligations.WatchdogFiresAfterIdleToPlusOneTicks
  intro s before rest last polling restarted finite quiet count tick few listed
  refine ⟨fun n upto => ?_, ?_⟩
  · obtain ⟨t, run, waited, elapsed⟩ := runCycles_before_flush polling restarted quiet count few listed upto
    exact ⟨t, run, waited.fifo, elapsed, waited.discCnt, waited.polling⟩
  · obtain ⟨u, run, waited⟩ := runCycles_flushes polling restarted quiet count few listed finite tick
    refine ⟨flush u, run, flush_rxq u, flush_elapsed u, (flush_runState u).trans waited.polling, ?_,
      (flush_inputs u).trans waited.inputs⟩
    rw [flush_discCnt, waited.fifo, waited.discCnt]
    rfl

/-- Settles O56: ELAPSED saturates at IDLE_TO's maximum, so it never passes it. -/
theorem watchdogNeverFiresAtMaximum : Obligations.WatchdogNeverFiresAtMaximum := by
  unfold Obligations.WatchdogNeverFiresAtMaximum
  intro n s polling few top listed
  have bytes : (List.replicate n (lineInput .tick)).filterMap (·.rx) = [] := by simp [lineInput]
  have ticks : (List.replicate n (lineInput .tick)).countP (·.tick) = n := by simp [List.countP_replicate, lineInput]
  have never : s.idleTo.toNat = 0xFFFFFFFF := by rw [top]; rfl
  obtain ⟨t, run, waited⟩ := runCycles_waits (is := List.replicate n (lineInput .tick)) (rest := []) polling
    (fun i member => List.eq_of_mem_replicate member ▸ lineOnly_tick) (by rwa [bytes, List.append_nil])
    (by rw [never]; exact Nat.min_le_right _ _) (by rw [listed, List.append_nil])
  rw [List.length_replicate] at run
  have fifo := waited.fifo
  have elapsed := waited.elapsed
  rw [bytes, List.append_nil] at fifo
  rw [ticks] at elapsed
  exact ⟨t, run, fifo, waited.discCnt, waited.polling, elapsed⟩

/-- Settles O57: the silence flushes the stray bytes, and the frame finds an empty FIFO and a restarted timer. -/
theorem silenceRestoresFrameAlignment : Obligations.SilenceRestoresFrameAlignment := by
  unfold Obligations.SilenceRestoresFrameAlignment
  intro s d wf polling few restarted finite six f listed
  have bytes (n : Nat) : (List.replicate n (lineInput .tick)).filterMap (·.rx) = [] := by
    simp [lineInput]
  obtain ⟨u, silence, waited⟩ := runCycles_flushes (before := List.replicate s.idleTo.toNat (lineInput .tick))
    (last := lineInput .tick) (rest := f.map fun b => lineInput (.rx b)) polling restarted
    (fun i member => by
      rw [← List.replicate_succ'] at member
      exact List.eq_of_mem_replicate member ▸ lineOnly_tick)
    (by simp [List.countP_replicate, lineInput]) (by rwa [← List.replicate_succ', bytes, List.append_nil])
    (by rw [listed, List.replicate_succ', List.append_assoc]; rfl) finite rfl
  rw [List.length_replicate] at silence
  have eight : f.length = 8 := (length_withCrc d).trans (by rw [six])
  obtain ⟨v, frame, pollingThen, fifo, mem⟩ := runCycles_captures (s := flush u) (f := f)
    ((flush_runState u).trans waited.polling) (flush_rxq u) (flush_elapsed u) eight ((flush_inputs u).trans waited.inputs)
  rw [flush_mem, waited.mem] at mem
  have vwf : v.mem.wf = true := mem ▸ wf
  have full : 8 ≤ v.rxq.length := by rw [fifo, eight]
  have parse : (takeFrame v).parseFrame = withCrc d := by
    rw [takeFrame_parseFrame vwf full, fifo, List.take_of_length_le eight.le]
    rfl
  obtain ⟨pst, slave, fc⟩ := decodeFrame_withCrc_six six
  refine ⟨capture v, (runCycles_add silence).trans frame, ?_, ?_, ?_, ?_, ?_, fun k inside => ?_⟩
  · rw [capture_runState, parse, if_pos pst]
  · rw [capture_parsed, parse, pst]
  · rw [capture_parsed, parse, slave]
  · rw [capture_parsed, parse, fc]
  · rw [capture_rxq, fifo, List.drop_of_length_le eight.le]
  · rw [← fifo]
    exact (congrArg (Memory.read · _) (capture_mem v)).trans (read_takeFrame_inside vwf full inside)
end

section
/-! PROOFS. Runs of host programs (R93, R94): one line a cycle, for `loadp`, `crcbytes` and `send`. -/

namespace Sys2Proof.Machine

variable {s t : State} {rest : List CycleInput}

/-! ## One line of a program -/

theorem step_of_command {j : Instr} (listed : s.inputs = lineInput (.cmd j) :: rest) (run : exec j s.beginCycle = .next t) :
    step s = .next (loopPhase (t.setAnswer .wrote)) := by
  rw [step, nextInput_of_inputs listed]
  exact cycle_of_command_alone run

/-- A host access alone outside POLLING: the loop does not act (R158). -/
theorem step_of_access_outside_polling {a : HostAccess} (listed : s.inputs = hostInput a :: rest)
    (access : hostAccess a s.beginCycle = .next t) (idle : t.runState ≠ .polling) : step s = .next t := by
  rw [step, nextInput_of_inputs listed, cycle_of_host (i := hostInput a) rfl rfl access]
  exact congrArg _ (loopPhase_of_not_polling idle)

/-! ## `loadp` -/

theorem toNat_offset {a : Nat} (inside : a < 1024) : (BitVec.ofNat 10 a).toNat = a := by
  rw [BitVec.toNat_ofNat, Nat.mod_eq_of_lt inside]

/-- A byte write to PBUF or EBUF outside POLLING (R64). -/
theorem step_of_byte_write {a : Nat} {b : Byte} (low : 0x100 ≤ a) (high : a < 0x2FC) (idle : s.runState ≠ .polling)
    (listed : s.inputs = lineInput (.wrb (BitVec.ofNat 10 a) b) :: rest) :
    ∃ t, step s = .next t ∧ t.mem = Memory.write s.mem a b ∧ t.runState = s.runState ∧ t.crcAcc = s.crcAcc ∧
      t.inputs = rest := by
  have off : (BitVec.ofNat 10 a).toNat = a := toNat_offset (by omega)
  have writable : hostWritable (BitVec.ofNat 10 a).toNat = true := by
    rw [off, hostWritable_iff]
    exact ⟨low, high⟩
  refine ⟨_, step_of_access_outside_polling listed (hostAccess_write_byte (by omega) b) (by simpa using idle), ?_⟩
  rw [writeByteAt_of_writable writable, off]
  simp [listed]

/-- A write of PLEN outside POLLING (R30). -/
theorem step_of_plen_write {v : Word} (idle : s.runState ≠ .polling)
    (listed : s.inputs = lineInput (.wr Reg.plen.offset v) :: rest) :
    ∃ t, step s = .next t ∧ t.plen = v.setWidth 9 ∧ t.mem = s.mem ∧ t.runState = s.runState ∧ t.crcAcc = s.crcAcc := by
  have access : hostAccess { off := Reg.plen.offset, op := .write4 v } s.beginCycle =
      .next ((s.beginCycle.setPlen (v.setWidth 9)).setAnswer .wrote) := hostAccess_write_register s.beginCycle .plen v
  exact ⟨_, step_of_access_outside_polling listed access (by simpa using idle), by simp⟩

/-- Byte writes to consecutive offsets of PBUF and EBUF store the sequence, outside POLLING, and leave RUNSTATE and
CRC_ACC (R64, R94). -/
theorem runCycles_storeLines {a : Nat} {bs : List Byte} (low : 0x100 ≤ a) (high : a + bs.length ≤ 0x2FC)
    (idle : s.runState ≠ .polling) (listed : s.inputs = (storeLines a bs).map lineInput ++ rest) :
    ∃ t, runCycles bs.length s = .next t ∧ t.mem = Memory.writeBytes s.mem a bs ∧ t.runState = s.runState ∧
      t.crcAcc = s.crcAcc ∧ t.inputs = rest := by
  induction bs generalizing a s with
  | nil => exact ⟨s, rfl, rfl, rfl, rfl, listed⟩
  | cons b bs ih =>
    rw [List.length_cons] at high
    obtain ⟨u, run, mem, runState, crcAcc, inputs⟩ := step_of_byte_write low (by omega) idle listed
    obtain ⟨t, more, memMore, runStateMore, crcAccMore, inputsMore⟩ := ih (by omega) (by omega) (by rwa [runState]) inputs
    exact ⟨t, (runCycles_succ run _).trans more, by rw [memMore, mem]; rfl, runStateMore.trans runState,
      crcAccMore.trans crcAcc, inputsMore⟩

/-! ## `crcbytes` -/

theorem runCycles_crcFeed {bs : List Byte} (listed : s.inputs = (bs.map fun b => HostLine.cmd (.crcFeed b)).map lineInput) :
    ∃ t, runCycles bs.length s = .next t ∧ t.crcAcc = crcFold s.crcAcc bs := by
  induction bs generalizing s with
  | nil => exact ⟨s, rfl, rfl⟩
  | cons b bs ih =>
    have run := step_of_command listed (exec_crcFeed b _)
    obtain ⟨t, more, acc⟩ := ih (s := loopPhase ((s.beginCycle.setCrcAcc (crcStep s.crcAcc b)).setAnswer .wrote))
      (by simp [listed])
    exact ⟨t, (runCycles_succ run _).trans more, by simpa using acc⟩

/-! ## `send` -/

theorem setAnswer_txBuffer (s : State) (a : Answer) : (s.setAnswer a).txBuffer = s.txBuffer := rfl

theorem beginCycle_ebufBytes (s : State) (n : Nat) : s.beginCycle.ebufBytes n = s.ebufBytes n := rfl

/-- ENCODE in DISPATCH loads the response, and the loop does not act after it (R122, R158). -/
theorem step_of_encode_in_dispatch {a b : Byte} (wf : s.mem.wf = true) (dispatch : s.runState = .dispatch)
    (fits : s.elen.toNat ≤ 252) (listed : s.inputs = lineInput (.cmd (.encode a b)) :: rest) :
    ∃ t, step s = .next t ∧ t.txBuffer = responseFrame a b (s.ebufBytes s.elen.toNat) ∧ t.runState = .dispatch ∧
      t.rxq = s.rxq ∧ t.txLog = s.txLog ∧ t.run = s.run ∧ t.cmdErr = s.cmdErr ∧ t.inputs = rest := by
  have short : (responseFrame a b (s.ebufBytes s.elen.toNat)).length < 2 ^ 9 := by
    rw [length_responseFrame, State.ebufBytes, Memory.length_readBytes]
    omega
  have run := step_of_command listed (exec_encode_of_fits (s := s.beginCycle) fits a b)
  rw [loopPhase_of_not_polling (by simp [dispatch]), beginCycle_elen, beginCycle_ebufBytes] at run
  exact ⟨_, run, by rw [setAnswer_txBuffer, txBuffer_loadTx (s := s.beginCycle) wf short], by simp [dispatch], by simp,
    by simp, by simp, by simp, by simp [listed]⟩

/-- DONE_TX in DISPATCH, with no frame waiting: the frame leaves and the dispatch is over (R160). -/
theorem step_of_doneTx_in_dispatch (dispatch : s.runState = .dispatch) (few : s.rxq.length < 8)
    (listed : s.inputs = lineInput (.cmd .doneTx) :: rest) :
    ∃ t, step s = .next t ∧ t.txFrame = some s.txBuffer ∧ t.txLog = s.txLog ++ [s.txBuffer] ∧ t.answer = .wrote ∧
      t.runState = (if s.run = true then .polling else .stopped) ∧ t.cmdErr = s.cmdErr := by
  refine ⟨_, step_of_command listed (exec_doneTx_of_dispatch (s := s.beginCycle) dispatch), ?_⟩
  rw [loopPhase_runState_of_few (by simpa using few), loopPhase_txFrame, loopPhase_txLog, loopPhase_answer, loopPhase_cmdErr]
  exact ⟨rfl, rfl, rfl, rfl, rfl⟩

end Sys2Proof.Machine

open Sys2Proof Sys2Proof.Machine

/-- Settles O58, by induction on the bytes: a line a cycle, with no loop action outside POLLING for `loadp`, and none that
touches CRC_ACC for `crcbytes`. -/
theorem pseudoInstructionsLoadAndFold : Obligations.PseudoInstructionsLoadAndFold := by
  unfold Obligations.PseudoInstructionsLoadAndFold
  refine ⟨fun s bs wf idle fits listed => ?_, fun s bs listed => ?_⟩
  · rw [expandPseudo, List.map_append] at listed
    obtain ⟨t, run, mem, runState, crcAcc, inputs⟩ := runCycles_storeLines (a := pbufBase) (le_refl _)
      (by simp only [pbufBase]; omega) idle listed
    obtain ⟨u, last, plen, memLast, runStateLast, crcAccLast⟩ := step_of_plen_write (by rwa [runState]) inputs
    refine ⟨u, (runCycles_add run).trans (runCycles_one last), ?_, fun k inside => ?_, fun x outside => ?_,
      runStateLast.trans runState, crcAccLast.trans crcAcc⟩
    · rw [plen, BitVec.toNat_setWidth, BitVec.toNat_ofNat]
      omega
    · rw [memLast, mem]
      exact Memory.read_writeBytes_inside wf inside
    · rw [memLast, mem]
      exact Memory.read_writeBytes_other outside
  · have run := step_of_command listed (exec_crcInit _)
    obtain ⟨t, more, acc⟩ := runCycles_crcFeed (bs := bs)
      (s := loopPhase ((s.beginCycle.setCrcAcc crcInitial).setAnswer .wrote)) (by simp [listed, expandPseudo])
    exact ⟨t, (runCycles_succ run _).trans more, by simpa [crc16] using acc⟩

/-- Settles O59: the first cycle loads the response in DISPATCH, where the loop does not act, and the second sends it. -/
theorem sendAnswersTheDispatch : Obligations.SendAnswersTheDispatch := by
  unfold Obligations.SendAnswersTheDispatch
  intro s a b wf dispatch fits few listed body f
  have lines : s.inputs = [lineInput (.cmd (.encode a b)), lineInput (.cmd .doneTx)] := listed
  obtain ⟨t, first, buffer, held, fifo, log, run, error, left⟩ := step_of_encode_in_dispatch wf dispatch fits lines
  obtain ⟨u, second, sent⟩ := step_of_doneTx_in_dispatch held (by rwa [fifo]) left
  rw [buffer, log, run, error] at sent
  exact ⟨u, (runCycles_succ first 1).trans (runCycles_one second), sent⟩
end
